-- ==== Sys2Proof/Word.lean ====
section
/-! DEFINITION. The block's data widths (00_scope.md R11). -/

namespace Sys2Proof

/-- A u8, the width of a wave RAM byte and of a FIFO sample (R109, R111). -/
abbrev Byte := BitVec 8

/-- A u16, the width of every register of the register space (R200 a). -/
abbrev Half := BitVec 16

/-- The 32-bit command word (R300). -/
abbrev Word := BitVec 32

/-- A count that the spec requires to be at least 1 (R9, R903: "a model takes them as typed arguments"). -/
abbrev PosNat := { n : Nat // 0 < n }

end Sys2Proof
end

