-- ==== Sys2Proof/Syntax.lean ====
section
/-! DEFINITION. The block's operations as syntax: ports (R300), refusal codes (R901), the mapped
registers (R211, R306) and one constructor of Instr per row of spec/opcode_table.json (R306, R308, R309). -/

namespace Sys2Proof

/-- The six ports a command word is presented on (R300). -/
inductive Port where
  | bus
  | cpu
  | host
  | irqsrc
  | sink
  | internal
  deriving DecidableEq, Repr

/-- The two direct-sound FIFOs (R111); the index bit is 0 for A and 1 for B (R304). -/
inductive FifoId where
  | a
  | b
  deriving DecidableEq, Repr

/-- The refusal codes of R901. -/
inductive ErrCode where
  | internalOnly
  | reservedOp
  | wrongPort
  | badBe
  | reservedBit
  | badConfig
  | reentrant
  deriving DecidableEq, Repr

/-- The 23 mapped registers of R306, five of them indexed. -/
inductive Reg where
  | sound1cntL
  | sound1cntH
  | sound1cntX
  | sound2cntL
  | sound2cntH
  | sound3cntL
  | sound3cntH
  | sound3cntX
  | sound4cntL
  | sound4cntH
  | soundcntL
  | soundcntH
  | soundcntX
  | soundbias
  | waveRam (k : Fin 8)
  | fifoA (h : Fin 2)
  | fifoB (h : Fin 2)
  | tmcntL (n : Fin 4)
  | tmcntH (n : Fin 4)
  | ie
  | iflags
  | ime
  | haltcnt
  deriving DecidableEq, Repr

/-- One constructor per row of the opcode table. `be` is BE (bit 0 lane 7:0, bit 1 lane 15:8),
`data` is DATA, `haddr` is HADDR (R301); the other arguments are the index and argument fields of R304. -/
inductive Instr where
  | regWriteSound1cntL (be : BitVec 2) (data : Half)
  | regReadSound1cntL
  | regWriteSound1cntH (be : BitVec 2) (data : Half)
  | regReadSound1cntH
  | regWriteSound1cntX (be : BitVec 2) (data : Half)
  | regReadSound1cntX
  | regWriteSound2cntL (be : BitVec 2) (data : Half)
  | regReadSound2cntL
  | regWriteSound2cntH (be : BitVec 2) (data : Half)
  | regReadSound2cntH
  | regWriteSound3cntL (be : BitVec 2) (data : Half)
  | regReadSound3cntL
  | regWriteSound3cntH (be : BitVec 2) (data : Half)
  | regReadSound3cntH
  | regWriteSound3cntX (be : BitVec 2) (data : Half)
  | regReadSound3cntX
  | regWriteSound4cntL (be : BitVec 2) (data : Half)
  | regReadSound4cntL
  | regWriteSound4cntH (be : BitVec 2) (data : Half)
  | regReadSound4cntH
  | regWriteSoundcntL (be : BitVec 2) (data : Half)
  | regReadSoundcntL
  | regWriteSoundcntH (be : BitVec 2) (data : Half)
  | regReadSoundcntH
  | regWriteSoundcntX (be : BitVec 2) (data : Half)
  | regReadSoundcntX
  | regWriteSoundbias (be : BitVec 2) (data : Half)
  | regReadSoundbias
  | regWriteWaveRam (k : Fin 8) (be : BitVec 2) (data : Half)
  | regReadWaveRam (k : Fin 8)
  | regWriteFifoA (h : Fin 2) (be : BitVec 2) (data : Half)
  | regReadFifoA (h : Fin 2)
  | regWriteFifoB (h : Fin 2) (be : BitVec 2) (data : Half)
  | regReadFifoB (h : Fin 2)
  | regWriteTmcntL (n : Fin 4) (be : BitVec 2) (data : Half)
  | regReadTmcntL (n : Fin 4)
  | regWriteTmcntH (n : Fin 4) (be : BitVec 2) (data : Half)
  | regReadTmcntH (n : Fin 4)
  | regWriteIe (be : BitVec 2) (data : Half)
  | regReadIe
  | regWriteIf (be : BitVec 2) (data : Half)
  | regReadIf
  | regWriteIme (be : BitVec 2) (data : Half)
  | regReadIme
  | regWriteHaltcnt (be : BitVec 2) (data : Half)
  | regReadHaltcnt
  | regWriteUnmapped (haddr : BitVec 11) (be : BitVec 2) (data : Half)
  | regReadUnmapped (haddr : BitVec 11)
  | reset
  | runFrame
  | setSpeed (m : Half)
  | cpuHalt
  | cpuStop
  | cpuIntrwait (mask : BitVec 14)
  | irqRequest (bits : BitVec 14)
  | ringPop (pad : Bool) (count : Half)
  | evtPass
  | evtTick
  | evtTimerTick
  | evtTimerInc (n : Fin 4)
  | evtTimerOverflow (n : Fin 4)
  | evtFifoDrain (f : FifoId)
  | evtApuStep
  | evtFsClock
  | evtLengthClock
  | evtSweepClock
  | evtEnvelopeClock
  | evtMix
  | evtResample
  | evtRingPush
  deriving DecidableEq, Repr

end Sys2Proof
end

