-- ==== Sys2Proof/Decode.lean ====
section
/-! DEFINITION. The decoder of 30_encoding.md: fields (R301-R304), the register rows (R306), the
six ordered checks (R305), and the encoder written from the same tables. Decoding is total on every
(port, word) pair and rejects by the name of a refusal code. -/

namespace Sys2Proof

/-! ## Fields of a command word -/

/-- W[31:30], the class (R300). -/
def wordClass (w : Word) : BitVec 2 := w.extractLsb' 30 2

/-- W[29:28], the byte enables of a REG word (R301). -/
def wordBe (w : Word) : BitVec 2 := w.extractLsb' 28 2

/-- W[27:17], the halfword address of a REG word (R301). -/
def wordHaddr (w : Word) : BitVec 11 := w.extractLsb' 17 11

/-- W[16], the reserved bit of a REG word (R301). -/
def wordZ (w : Word) : Bool := w.getLsbD 16

/-- W[15:0], DATA of a REG word and ARG16 of a CMD or EVT word (R301, R302). -/
def wordData (w : Word) : Half := w.extractLsb' 0 16

/-- W[29:24], the code of a CMD or EVT word (R302). -/
def wordOp (w : Word) : BitVec 6 := w.extractLsb' 24 6

/-- W[23:16], ARG8 of a CMD or EVT word (R302). -/
def wordArg8 (w : Word) : BitVec 8 := w.extractLsb' 16 8

/-- A REG word from its fields, Z = 0 (R301). -/
def regWord (cls be : BitVec 2) (haddr : BitVec 11) (data : Half) : Word :=
  cls ++ be ++ haddr ++ 0#1 ++ data

/-- A CMD or EVT word from its fields (R302, R303). -/
def cmdWord (cls : BitVec 2) (op : BitVec 6) (arg8 : BitVec 8) (arg16 : Half) : Word :=
  cls ++ op ++ arg8 ++ arg16

/-! ## Register rows (R306) -/

/-- The mapped register at a halfword address, by the HADDR patterns of R306; `none` is the unmapped row. -/
def regAt (h : BitVec 11) : Option Reg :=
  if h = 0x030#11 then some .sound1cntL
  else if h = 0x031#11 then some .sound1cntH
  else if h = 0x032#11 then some .sound1cntX
  else if h = 0x034#11 then some .sound2cntL
  else if h = 0x036#11 then some .sound2cntH
  else if h = 0x038#11 then some .sound3cntL
  else if h = 0x039#11 then some .sound3cntH
  else if h = 0x03a#11 then some .sound3cntX
  else if h = 0x03c#11 then some .sound4cntL
  else if h = 0x03e#11 then some .sound4cntH
  else if h = 0x040#11 then some .soundcntL
  else if h = 0x041#11 then some .soundcntH
  else if h = 0x042#11 then some .soundcntX
  else if h = 0x044#11 then some .soundbias
  else if h &&& 0x7f8#11 = 0x048#11 then some (.waveRam (h.extractLsb' 0 3).toFin)
  else if h &&& 0x7fe#11 = 0x050#11 then some (.fifoA (h.extractLsb' 0 1).toFin)
  else if h &&& 0x7fe#11 = 0x052#11 then some (.fifoB (h.extractLsb' 0 1).toFin)
  else if h &&& 0x7f9#11 = 0x080#11 then some (.tmcntL (h.extractLsb' 1 2).toFin)
  else if h &&& 0x7f9#11 = 0x081#11 then some (.tmcntH (h.extractLsb' 1 2).toFin)
  else if h = 0x100#11 then some .ie
  else if h = 0x101#11 then some .iflags
  else if h = 0x104#11 then some .ime
  else if h = 0x180#11 then some .haltcnt
  else none

/-- The halfword address of a mapped register, by R306's HADDR column. -/
def Reg.haddr : Reg → BitVec 11
  | .sound1cntL => 0x030
  | .sound1cntH => 0x031
  | .sound1cntX => 0x032
  | .sound2cntL => 0x034
  | .sound2cntH => 0x036
  | .sound3cntL => 0x038
  | .sound3cntH => 0x039
  | .sound3cntX => 0x03a
  | .sound4cntL => 0x03c
  | .sound4cntH => 0x03e
  | .soundcntL => 0x040
  | .soundcntH => 0x041
  | .soundcntX => 0x042
  | .soundbias => 0x044
  | .waveRam k => BitVec.ofNat 11 (0x048 + k.val)
  | .fifoA h => BitVec.ofNat 11 (0x050 + h.val)
  | .fifoB h => BitVec.ofNat 11 (0x052 + h.val)
  | .tmcntL n => BitVec.ofNat 11 (0x080 + 2 * n.val)
  | .tmcntH n => BitVec.ofNat 11 (0x081 + 2 * n.val)
  | .ie => 0x100
  | .iflags => 0x101
  | .ime => 0x104
  | .haltcnt => 0x180

/-- The REG_WRITE row of a register. -/
def writeRow (be : BitVec 2) (data : Half) : Reg → Instr
  | .sound1cntL => .regWriteSound1cntL be data
  | .sound1cntH => .regWriteSound1cntH be data
  | .sound1cntX => .regWriteSound1cntX be data
  | .sound2cntL => .regWriteSound2cntL be data
  | .sound2cntH => .regWriteSound2cntH be data
  | .sound3cntL => .regWriteSound3cntL be data
  | .sound3cntH => .regWriteSound3cntH be data
  | .sound3cntX => .regWriteSound3cntX be data
  | .sound4cntL => .regWriteSound4cntL be data
  | .sound4cntH => .regWriteSound4cntH be data
  | .soundcntL => .regWriteSoundcntL be data
  | .soundcntH => .regWriteSoundcntH be data
  | .soundcntX => .regWriteSoundcntX be data
  | .soundbias => .regWriteSoundbias be data
  | .waveRam k => .regWriteWaveRam k be data
  | .fifoA h => .regWriteFifoA h be data
  | .fifoB h => .regWriteFifoB h be data
  | .tmcntL n => .regWriteTmcntL n be data
  | .tmcntH n => .regWriteTmcntH n be data
  | .ie => .regWriteIe be data
  | .iflags => .regWriteIf be data
  | .ime => .regWriteIme be data
  | .haltcnt => .regWriteHaltcnt be data

/-- The REG_READ row of a register. -/
def readRow : Reg → Instr
  | .sound1cntL => .regReadSound1cntL
  | .sound1cntH => .regReadSound1cntH
  | .sound1cntX => .regReadSound1cntX
  | .sound2cntL => .regReadSound2cntL
  | .sound2cntH => .regReadSound2cntH
  | .sound3cntL => .regReadSound3cntL
  | .sound3cntH => .regReadSound3cntH
  | .sound3cntX => .regReadSound3cntX
  | .sound4cntL => .regReadSound4cntL
  | .sound4cntH => .regReadSound4cntH
  | .soundcntL => .regReadSoundcntL
  | .soundcntH => .regReadSoundcntH
  | .soundcntX => .regReadSoundcntX
  | .soundbias => .regReadSoundbias
  | .waveRam k => .regReadWaveRam k
  | .fifoA h => .regReadFifoA h
  | .fifoB h => .regReadFifoB h
  | .tmcntL n => .regReadTmcntL n
  | .tmcntH n => .regReadTmcntH n
  | .ie => .regReadIe
  | .iflags => .regReadIf
  | .ime => .regReadIme
  | .haltcnt => .regReadHaltcnt

/-! ## Rows, ports and reserved bits -/

/-- The port of an instruction's row (R305 check 3, R308, R309). -/
def Instr.port : Instr → Port
  | .reset | .runFrame | .setSpeed _ => .host
  | .cpuHalt | .cpuStop | .cpuIntrwait _ => .cpu
  | .irqRequest _ => .irqsrc
  | .ringPop _ _ => .sink
  | .evtPass | .evtTick | .evtTimerTick | .evtTimerInc _ | .evtTimerOverflow _ | .evtFifoDrain _ => .internal
  | .evtApuStep | .evtFsClock | .evtLengthClock | .evtSweepClock | .evtEnvelopeClock => .internal
  | .evtMix | .evtResample | .evtRingPush => .internal
  | .regWriteSound1cntL _ _ | .regReadSound1cntL | .regWriteSound1cntH _ _ | .regReadSound1cntH | .regWriteSound1cntX _ _ => .bus
  | .regReadSound1cntX | .regWriteSound2cntL _ _ | .regReadSound2cntL | .regWriteSound2cntH _ _ | .regReadSound2cntH => .bus
  | .regWriteSound3cntL _ _ | .regReadSound3cntL | .regWriteSound3cntH _ _ | .regReadSound3cntH | .regWriteSound3cntX _ _ => .bus
  | .regReadSound3cntX | .regWriteSound4cntL _ _ | .regReadSound4cntL | .regWriteSound4cntH _ _ | .regReadSound4cntH => .bus
  | .regWriteSoundcntL _ _ | .regReadSoundcntL | .regWriteSoundcntH _ _ | .regReadSoundcntH | .regWriteSoundcntX _ _ => .bus
  | .regReadSoundcntX | .regWriteSoundbias _ _ | .regReadSoundbias | .regWriteWaveRam _ _ _ | .regReadWaveRam _ => .bus
  | .regWriteFifoA _ _ _ | .regReadFifoA _ | .regWriteFifoB _ _ _ | .regReadFifoB _ | .regWriteTmcntL _ _ _ => .bus
  | .regReadTmcntL _ | .regWriteTmcntH _ _ _ | .regReadTmcntH _ | .regWriteIe _ _ | .regReadIe => .bus
  | .regWriteIf _ _ | .regReadIf | .regWriteIme _ _ | .regReadIme | .regWriteHaltcnt _ _ => .bus
  | .regReadHaltcnt | .regWriteUnmapped _ _ _ | .regReadUnmapped _ => .bus

/-- Check 6 of R305 with the code tables of R308 and R309: the row of a word, `none` where a CMD or
EVT code is not assigned. -/
def rowInstr (w : Word) : Option Instr :=
  match (wordClass w).toNat with
  | 0 =>
    match regAt (wordHaddr w) with
    | some r => some (writeRow (wordBe w) (wordData w) r)
    | none => some (.regWriteUnmapped (wordHaddr w) (wordBe w) (wordData w))
  | 1 =>
    match regAt (wordHaddr w) with
    | some r => some (readRow r)
    | none => some (.regReadUnmapped (wordHaddr w))
  | 2 =>
    match (wordOp w).toNat with
    | 0x00 => some .reset
    | 0x01 => some .runFrame
    | 0x02 => some (.setSpeed (wordData w))
    | 0x03 => some .cpuHalt
    | 0x04 => some .cpuStop
    | 0x05 => some (.cpuIntrwait ((wordData w).extractLsb' 0 14))
    | 0x06 => some (.irqRequest ((wordData w).extractLsb' 0 14))
    | 0x07 => some (.ringPop ((wordArg8 w).getLsbD 0) (wordData w))
    | _ => none
  | _ =>
    match (wordOp w).toNat with
    | 0x00 => some .evtPass
    | 0x01 => some .evtTick
    | 0x02 => some .evtTimerTick
    | 0x03 => some (.evtTimerInc ((wordArg8 w).extractLsb' 0 2).toFin)
    | 0x04 => some (.evtTimerOverflow ((wordArg8 w).extractLsb' 0 2).toFin)
    | 0x05 => some (.evtFifoDrain (if (wordArg8 w).getLsbD 0 then .b else .a))
    | 0x06 => some .evtApuStep
    | 0x07 => some .evtFsClock
    | 0x08 => some .evtLengthClock
    | 0x09 => some .evtSweepClock
    | 0x0A => some .evtEnvelopeClock
    | 0x0B => some .evtMix
    | 0x0C => some .evtResample
    | 0x0D => some .evtRingPush
    | _ => none

/-- The argument bits W[23:0] that a CMD or EVT row does not use (R302, R303, R308, R309). -/
def unusedArgs (w : Word) : BitVec 24 :=
  match (wordClass w).toNat, (wordOp w).toNat with
  | 2, 0x02 => 0xFF0000#24
  | 2, 0x05 => 0xFFC000#24
  | 2, 0x06 => 0xFFC000#24
  | 2, 0x07 => 0xFE0000#24
  | 3, 0x03 => 0xFCFFFF#24
  | 3, 0x04 => 0xFCFFFF#24
  | 3, 0x05 => 0xFEFFFF#24
  | _, _ => 0xFFFFFF#24

/-- Check 5 of R305: some must-be-zero bit of the row is 1 (Z; a read's BE not 11 or DATA not 0; unused
ARG bits). -/
def reservedBitSet (w : Word) : Bool :=
  match (wordClass w).toNat with
  | 0 => wordZ w
  | 1 => wordZ w || wordBe w != 3#2 || wordData w != 0#16
  | _ => w.extractLsb' 0 24 &&& unusedArgs w != 0#24

/-- What the decoder answers: a row's instruction, or a refusal by name (R305). -/
inductive Decoded where
  | instr (i : Instr)
  | refused (e : ErrCode)
  deriving DecidableEq, Repr

/-- The decoder of R305: the checks in order, the first that fails decides. -/
def decode (p : Port) (w : Word) : Decoded :=
  if wordClass w = 3#2 ∧ p ≠ .internal then .refused .internalOnly
  else
    match rowInstr w with
    | none => .refused .reservedOp
    | some i =>
      if i.port ≠ p then .refused .wrongPort
      else if wordClass w = 0#2 ∧ wordBe w = 0#2 then .refused .badBe
      else if reservedBitSet w then .refused .reservedBit
      else .instr i

/-! ## The encoder -/

/-- The REG_WRITE word of a register (R306). -/
def writeWord (r : Reg) (be : BitVec 2) (data : Half) : Word := regWord 0 be r.haddr data

/-- The REG_READ word of a register (R306). -/
def readWord (r : Reg) : Word := regWord 1 3 r.haddr 0

/-- The word of an instruction (R306, R308, R309). -/
def encode : Instr → Word
  | .regWriteSound1cntL be data => writeWord .sound1cntL be data
  | .regReadSound1cntL => readWord .sound1cntL
  | .regWriteSound1cntH be data => writeWord .sound1cntH be data
  | .regReadSound1cntH => readWord .sound1cntH
  | .regWriteSound1cntX be data => writeWord .sound1cntX be data
  | .regReadSound1cntX => readWord .sound1cntX
  | .regWriteSound2cntL be data => writeWord .sound2cntL be data
  | .regReadSound2cntL => readWord .sound2cntL
  | .regWriteSound2cntH be data => writeWord .sound2cntH be data
  | .regReadSound2cntH => readWord .sound2cntH
  | .regWriteSound3cntL be data => writeWord .sound3cntL be data
  | .regReadSound3cntL => readWord .sound3cntL
  | .regWriteSound3cntH be data => writeWord .sound3cntH be data
  | .regReadSound3cntH => readWord .sound3cntH
  | .regWriteSound3cntX be data => writeWord .sound3cntX be data
  | .regReadSound3cntX => readWord .sound3cntX
  | .regWriteSound4cntL be data => writeWord .sound4cntL be data
  | .regReadSound4cntL => readWord .sound4cntL
  | .regWriteSound4cntH be data => writeWord .sound4cntH be data
  | .regReadSound4cntH => readWord .sound4cntH
  | .regWriteSoundcntL be data => writeWord .soundcntL be data
  | .regReadSoundcntL => readWord .soundcntL
  | .regWriteSoundcntH be data => writeWord .soundcntH be data
  | .regReadSoundcntH => readWord .soundcntH
  | .regWriteSoundcntX be data => writeWord .soundcntX be data
  | .regReadSoundcntX => readWord .soundcntX
  | .regWriteSoundbias be data => writeWord .soundbias be data
  | .regReadSoundbias => readWord .soundbias
  | .regWriteWaveRam k be data => writeWord (.waveRam k) be data
  | .regReadWaveRam k => readWord (.waveRam k)
  | .regWriteFifoA h be data => writeWord (.fifoA h) be data
  | .regReadFifoA h => readWord (.fifoA h)
  | .regWriteFifoB h be data => writeWord (.fifoB h) be data
  | .regReadFifoB h => readWord (.fifoB h)
  | .regWriteTmcntL n be data => writeWord (.tmcntL n) be data
  | .regReadTmcntL n => readWord (.tmcntL n)
  | .regWriteTmcntH n be data => writeWord (.tmcntH n) be data
  | .regReadTmcntH n => readWord (.tmcntH n)
  | .regWriteIe be data => writeWord .ie be data
  | .regReadIe => readWord .ie
  | .regWriteIf be data => writeWord .iflags be data
  | .regReadIf => readWord .iflags
  | .regWriteIme be data => writeWord .ime be data
  | .regReadIme => readWord .ime
  | .regWriteHaltcnt be data => writeWord .haltcnt be data
  | .regReadHaltcnt => readWord .haltcnt
  | .regWriteUnmapped haddr be data => regWord 0 be haddr data
  | .regReadUnmapped haddr => regWord 1 3 haddr 0
  | .reset => cmdWord 2 0x00 0 0
  | .runFrame => cmdWord 2 0x01 0 0
  | .setSpeed m => cmdWord 2 0x02 0 m
  | .cpuHalt => cmdWord 2 0x03 0 0
  | .cpuStop => cmdWord 2 0x04 0 0
  | .cpuIntrwait mask => cmdWord 2 0x05 0 (mask.setWidth 16)
  | .irqRequest bits => cmdWord 2 0x06 0 (bits.setWidth 16)
  | .ringPop pad count => cmdWord 2 0x07 ((BitVec.ofBool pad).setWidth 8) count
  | .evtPass => cmdWord 3 0x00 0 0
  | .evtTick => cmdWord 3 0x01 0 0
  | .evtTimerTick => cmdWord 3 0x02 0 0
  | .evtTimerInc n => cmdWord 3 0x03 (BitVec.ofNat 8 n.val) 0
  | .evtTimerOverflow n => cmdWord 3 0x04 (BitVec.ofNat 8 n.val) 0
  | .evtFifoDrain f => cmdWord 3 0x05 (match f with | .a => 0 | .b => 1) 0
  | .evtApuStep => cmdWord 3 0x06 0 0
  | .evtFsClock => cmdWord 3 0x07 0 0
  | .evtLengthClock => cmdWord 3 0x08 0 0
  | .evtSweepClock => cmdWord 3 0x09 0 0
  | .evtEnvelopeClock => cmdWord 3 0x0A 0 0
  | .evtMix => cmdWord 3 0x0B 0 0
  | .evtResample => cmdWord 3 0x0C 0 0
  | .evtRingPush => cmdWord 3 0x0D 0 0

/-! ## Words of the opcode table -/

/-- The port of the row a word's class and code select; HOST where no row is assigned (the decoder refuses
the word there on every port). -/
def tablePort (w : Word) : Port :=
  match rowInstr w with
  | some i => i.port
  | none => .host

/-- The instruction the decoder reads from the bits `w` of a table row, presented on the row's own port. A
command word is always 32 bits (R300), so bits above `nbits` are 0 and bits above 31 do not exist. -/
def decodeTableWord (nbits w : Nat) : Option Instr :=
  if nbits ≤ 32 ∧ w < 2 ^ 32 then
    match decode (tablePort (BitVec.ofNat 32 w)) (BitVec.ofNat 32 w) with
    | .instr i => some i
    | .refused _ => none
  else none

end Sys2Proof
end

