-- ==== Sys2Proof/Config.lean ====
section
/-! DEFINITION. The fixed parameters of 00_scope.md R8 and the open parameters of R9. The open
parameters are arguments: a structure that State carries unchanged, so that a statement about every
state is a statement about every value of them (log 3). -/

namespace Sys2Proof.Config

/-- FRAME_CYCLES (R8). -/
def frameCycles : Nat := 280896

/-- FIFO_DEPTH (R8). -/
def fifoDepth : Nat := 32

/-- FIFO_DMA_THRESHOLD (R8). -/
def fifoDmaThreshold : Nat := 16

/-- FS_PERIOD, in APU steps (R8). -/
def fsPeriod : Nat := 8192

/-- IN_RATE, mixed frames per second (R8). -/
def inRate : Nat := 32768

/-- RB_POLICY, the overflow policy of the ring buffer (R9, R820). -/
inductive RbPolicy where
  | block
  | dropOldest
  deriving DecidableEq, Repr

/-- The open parameters, fixed at construction (R9). RESAMPLER is the reference instance (log 10). -/
structure Params where
  rbCap     : PosNat
  rbPolicy  : RbPolicy
  outRate   : PosNat
  psgRatio3 : Int
  deriving DecidableEq, Repr

/-- rs_step = IN_RATE / OUT_RATE (R112, R805). -/
def Params.rsStep (c : Params) : Rat := (inRate : Rat) / (c.outRate.val : Rat)

end Sys2Proof.Config
end

