-- ==== Sys2Proof/Machine/State.lean ====
section
/-! DEFINITION. Everything the spec gives the machine (10_state.md R100-R117), as plain data, and
State.reset (70_reset_and_hazards.md R1000, R1002). Field groups follow the tables of 10_state.md. The
groups from `seq` on are the model's own: where RUN_FRAME stands, the words waiting to be performed, the
oracles' answers and what was sent to the ports (logs 1, 2, 4, 7, 9, 14, 17). -/

namespace Sys2Proof.Machine

/-- The power states of the CPU as the block controls them (R102, R950). -/
inductive HaltState where
  | running
  | halted
  | stopped
  deriving DecidableEq, Repr

/-- Scheduler state (R102). `i` is the frame tick index of R101. -/
structure Sched where
  halt       : HaltState
  waitActive : Bool
  waitMask   : Half
  speed      : Half
  inFrame    : Bool
  i          : Nat
  carry      : Nat
  didRender  : Bool
  irqLine    : Bool
  irqEdges   : Nat
  deriving DecidableEq, Repr

/-- Interrupt registers IE, IF, IME (R103). -/
structure Irq where
  ie    : Half
  flags : Half
  ime   : Bool
  deriving DecidableEq, Repr

/-- One timer (R105). -/
structure Timer where
  counter   : Half
  reload    : Half
  prescaler : BitVec 2
  cascade   : Bool
  irqEn     : Bool
  enable    : Bool
  preAcc    : BitVec 10
  overflows : Nat
  deriving DecidableEq, Repr

/-- APU-wide state (R106), but for the FIFO control bits, which stand with their FIFO. -/
structure Apu where
  phase      : BitVec 2
  fsCounter  : BitVec 13
  fsStep     : BitVec 3
  audioWait  : BitVec 9
  masterEn   : Bool
  volR       : BitVec 3
  volL       : BitVec 3
  enR        : BitVec 4
  enL        : BitVec 4
  psgRatio   : BitVec 2
  bias       : BitVec 10
  resolution : BitVec 2
  deriving DecidableEq, Repr

/-- The envelope fields of channels 1, 2 and 4 (R107, R108, R110): the three register fields, the countdown
env_timer and the current volume. -/
structure Envelope where
  step   : BitVec 3
  dir    : Bool
  init   : BitVec 4
  timer  : BitVec 3
  volume : BitVec 4
  deriving DecidableEq, Repr

/-- A square channel (R107, R108). -/
structure Square where
  duty      : BitVec 2
  env       : Envelope
  freq      : BitVec 11
  lenEn     : Bool
  enabled   : Bool
  dutyPos   : BitVec 3
  freqTimer : BitVec 14
  length    : BitVec 7
  deriving DecidableEq, Repr

/-- The sweep fields of channel 1 (R107). -/
structure Sweep where
  shift : BitVec 3
  dir   : Bool
  time  : BitVec 3
  timer : BitVec 3
  deriving DecidableEq, Repr

/-- Byte storage: the listed cells in canonical form (log 20). -/
abbrev Memory := List Host.Cell

/-- The wave channel (R109). `bank` is wave_bank (false is bank 0). -/
structure Wave where
  dim       : Bool
  bank      : Bool
  play      : Bool
  vol       : BitVec 2
  force     : Bool
  freq      : BitVec 11
  lenEn     : Bool
  enabled   : Bool
  pos       : BitVec 6
  freqTimer : BitVec 13
  length    : BitVec 9
  ram       : Memory
  deriving DecidableEq, Repr

/-- The noise channel (R110). -/
structure Noise where
  env       : Envelope
  r         : BitVec 3
  width     : Bool
  s         : BitVec 4
  lenEn     : Bool
  enabled   : Bool
  lfsr      : BitVec 15
  out       : Bool
  freqTimer : BitVec 22
  length    : BitVec 7
  deriving DecidableEq, Repr

/-- A direct-sound FIFO (R111) with its SOUNDCNT_H bits (R106). Samples are s8 in two's complement, oldest
first; `timer` false selects timer 0, true timer 1. -/
structure Fifo where
  queue    : List Byte
  latch    : Byte
  requests : Nat
  vol      : Bool
  enR      : Bool
  enL      : Bool
  timer    : Bool
  deriving DecidableEq, Repr

/-- Resampler state of the reference instance (R112). -/
structure Resampler where
  prevL : Rat
  prevR : Rat
  phase : Rat
  deriving DecidableEq, Repr

/-- A stereo frame (L, R) of binary32 values, held as their bits (R113, D49). -/
structure Frame where
  l : BitVec 32
  r : BitVec 32
  deriving DecidableEq, Repr

/-- Ring buffer state (R113): unread frames, oldest first, and the two counters. -/
structure Ring where
  rb        : List Frame
  dropped   : Nat
  underruns : Nat
  deriving DecidableEq, Repr

/-- Fault codes (R901): one, FAULT_INVARIANT (0x80). -/
inductive FaultCode where
  | invariant
  deriving DecidableEq, Repr

/-- Where RUN_FRAME stands in the pseudocode of R401 (log 17): outside a frame; at the test of the carried
loop, and inside it; at the test of the pass loop, and inside it; at the test of the tick loop, and inside it. -/
inductive SeqPhase where
  | idle
  | carry
  | carryTick
  | pass
  | passRun
  | ticks
  | tickRun
  deriving DecidableEq, Repr

/-- RUN_FRAME's place and its locals `budget`, `n`, `fan`, `k` (R401, R420; log 17). -/
structure Seq where
  phase  : SeqPhase
  budget : Nat
  n      : Nat
  fan    : Bool
  k      : Nat
  deriving DecidableEq, Repr

/-- The data operand of an INTERNAL event, "not part of the word" (R801, R821). -/
inductive EventArg where
  | none
  | mixed (l r : Rat)
  | output (fr : Frame)
  deriving DecidableEq, Repr

/-- An INTERNAL command word waiting to be performed (R300, R303; log 7). -/
structure Event where
  word : Word
  arg  : EventArg
  deriving DecidableEq, Repr

/-- The operand registers of RESAMPLE (mixL, mixR) and RING_PUSH (push) (R801, R821; log 9). -/
structure Args where
  mixL : Rat
  mixR : Rat
  push : Frame
  deriving DecidableEq, Repr

/-- A bus access of a master before the bus adapter splits it (R203). -/
inductive BusAccess where
  | wr8 (o : BitVec 12) (v : Byte)
  | rd8 (o : BitVec 12)
  | wr16 (o : BitVec 12) (v : Half)
  | rd16 (o : BitVec 12)
  | wr32 (o : BitVec 12) (v : BitVec 32)
  | rd32 (o : BitVec 12)
  deriving DecidableEq, Repr

/-- What happens inside one of an oracle's calls: the oracle issues a BUS word, a bus access, a CPU-port word or an
IRQSRC word (R940, R941, R942, R943; log 18), or the sink presents a word between two of these transactions (R220,
R222; log 22). The SINK words of a bus access fall between its two transactions, or after its only one. -/
inductive Issue where
  | bus (w : Word)
  | access (a : BusAccess) (between : List Word)
  | cpu (w : Word)
  | irqsrc (w : Word)
  | sink (w : Word)
  deriving DecidableEq, Repr

/-- What happens inside a call of Video.Tick: an IRQSRC word it issues (R942), or a word the sink presents before,
between or after those (R220, R222; log 22). -/
inductive VideoIssue where
  | irqsrc (w : Word)
  | sink (w : Word)
  deriving DecidableEq, Repr

/-- An answer of CPU.Step or DMA.RunOne: its cost in ticks and what happened inside it, in order (R940, R941, R222). -/
structure Call where
  cost   : Nat
  issues : List Issue
  deriving DecidableEq, Repr

/-- An answer of Video.Tick: frame_end and what happened inside it, in order (R942, R222). -/
structure VideoTick where
  frameEnd : Bool
  issues   : List VideoIssue
  deriving DecidableEq, Repr

/-- Who moves next (log 1): the emulation agent takes one transition, an agent outside presents a word on its
port, or the host tears the block down. -/
inductive Move where
  | emulate
  | bus (w : Word)
  | cpu (w : Word)
  | host (w : Word)
  | irqsrc (w : Word)
  | sink (w : Word)
  | teardown
  deriving DecidableEq, Repr

/-- The oracles (R10): who moves next, and the answers still to come. When a list of answers is used up its
rest answer is given at every call (log 2). An entry `none` of `dma` is HasPendingTransfer = false. -/
structure Env where
  script    : List Move
  cpu       : List Call
  dma       : List (Option Call)
  video     : List VideoTick
  cpuRest   : Call
  dmaRest   : Option Call
  videoRest : VideoTick
  deriving DecidableEq, Repr

/-- What the block sends to a port or an agent: a REG_READ's result (R301), the assembled result of a bus
access (R203), a refusal (R900 b), RING_POP's frames (R822), RUN_FRAME's did_render (R401), and the calls
CPU.RaiseInterrupt (R412), Video.Render (R431) and DMA_FIFO_REQUEST (R712). -/
inductive Output where
  | readData (v : Half)
  | accessData (v : BitVec 32)
  | refused (p : Port) (e : ErrCode) (w : Word)
  | frames (fs : List Frame)
  | frameDone (didRender : Bool)
  | raiseInterrupt
  | render
  | dmaFifoRequest (f : FifoId)
  deriving DecidableEq, Repr

/-- The whole machine. -/
structure State where
  sched     : Sched
  irq       : Irq
  timers    : Vector Timer 4
  apu       : Apu
  ch1       : Square
  sweep     : Sweep
  ch2       : Square
  wave      : Wave
  noise     : Noise
  fifoA     : Fifo
  fifoB     : Fifo
  resampler : Resampler
  ring      : Ring
  faults    : List FaultCode
  params    : Config.Params
  seq       : Seq
  events    : List Event
  args      : Args
  env       : Env
  out       : List Output
  tornDown  : Bool
  deriving DecidableEq, Repr

/-- Why the machine stops. -/
inductive Fault where
  /-- Raised by Step.lean's `step` on a state with a non-empty fault set: "the block has no further
  transitions" (R900 c). Safe: the spec stops there too. -/
  | faulted (cs : List FaultCode)
  deriving DecidableEq, Repr

/-- Why an instruction has no meaning. -/
inductive Refusal where
  /-- Answered by an arm of `exec` whose instruction has no meaning yet; no arm does. Safe. -/
  | notModelled (mnemonic : String)
  deriving DecidableEq, Repr

/-! ## Reset values (R1000) -/

def Sched.reset : Sched :=
  { halt := .running, waitActive := false, waitMask := 0, speed := 1, inFrame := false, i := 0, carry := 0,
    didRender := false, irqLine := false, irqEdges := 0 }

def Irq.reset : Irq := { ie := 0, flags := 0, ime := false }

def Timer.reset : Timer :=
  { counter := 0, reload := 0, prescaler := 0, cascade := false, irqEn := false, enable := false, preAcc := 0,
    overflows := 0 }

def Apu.reset : Apu :=
  { phase := 0, fsCounter := 0, fsStep := 0, audioWait := 511, masterEn := false, volR := 0, volL := 0, enR := 0,
    enL := 0, psgRatio := 0, bias := 0x200, resolution := 0 }

def Envelope.reset : Envelope := { step := 0, dir := false, init := 0, timer := 0, volume := 0 }

def Square.reset : Square :=
  { duty := 0, env := Envelope.reset, freq := 0, lenEn := false, enabled := false, dutyPos := 0, freqTimer := 0,
    length := 0 }

def Sweep.reset : Sweep := { shift := 0, dir := false, time := 0, timer := 0 }

def Wave.reset : Wave :=
  { dim := false, bank := false, play := false, vol := 0, force := false, freq := 0, lenEn := false, enabled := false,
    pos := 0, freqTimer := 0, length := 0, ram := [] }

def Noise.reset : Noise :=
  { env := Envelope.reset, r := 0, width := false, s := 0, lenEn := false, enabled := false, lfsr := 0, out := false,
    freqTimer := 0, length := 0 }

def Fifo.reset : Fifo :=
  { queue := [], latch := 0, requests := 0, vol := false, enR := false, enL := false, timer := false }

def Resampler.reset : Resampler := { prevL := 0, prevR := 0, phase := 0 }

/-- The ring buffer at construction (R113, R1002). -/
def Ring.construction : Ring := { rb := [], dropped := 0, underruns := 0 }

/-- The model's choice of the open parameters for State.reset (log 3: DESIGN CHOICE, unsafe; no statement
rests on them). -/
def Params.construction : Config.Params :=
  { rbCap := ⟨65536, by decide⟩, rbPolicy := .dropOldest, outRate := ⟨32768, by decide⟩, psgRatio3 := 0 }

/-- The block right after construction, which is the reset state with the ring and the faults empty
(R1002). -/
def State.reset : State :=
  { sched := Sched.reset, irq := Irq.reset, timers := Vector.replicate 4 Timer.reset, apu := Apu.reset,
    ch1 := Square.reset, sweep := Sweep.reset, ch2 := Square.reset, wave := Wave.reset, noise := Noise.reset,
    fifoA := Fifo.reset, fifoB := Fifo.reset, resampler := Resampler.reset, ring := Ring.construction, faults := [],
    params := Params.construction,
    seq := { phase := .idle, budget := 0, n := 0, fan := false, k := 0 },
    events := [], args := { mixL := 0, mixR := 0, push := ⟨0, 0⟩ },
    env := { script := [], cpu := [], dma := [], video := [], cpuRest := ⟨1, []⟩, dmaRest := none,
             videoRest := ⟨false, []⟩ },
    out := [], tornDown := false }

end Sys2Proof.Machine
end

