-- ==== Sys2Proof/Machine/Operands.lean ====
section
/-! DEFINITION. Operand forms: byte lanes and the merge of a register write (R205), strobes, index
operands, packed register fields, the constant tables of R500 and R600, and the bus split of R203. -/

namespace Sys2Proof.Machine

/-! ## Byte lanes (R205) -/

/-- Lane 7:0 is enabled. -/
def laneLo (be : BitVec 2) : Bool := be.getLsbD 0

/-- Lane 15:8 is enabled. -/
def laneHi (be : BitVec 2) : Bool := be.getLsbD 1

/-- The mask `lanes` of R205. -/
def lanes (be : BitVec 2) : Half :=
  (if laneLo be then 0x00FF#16 else 0#16) ||| (if laneHi be then 0xFF00#16 else 0#16)

/-- `(old & ~lanes) | (data & lanes)` (R205). -/
def merge (be : BitVec 2) (old data : Half) : Half := (old &&& ~~~lanes be) ||| (data &&& lanes be)

/-- A strobe bit of the high lane fires: its lane is enabled and the bit is 1 in the data (R205). -/
def strobe (be : BitVec 2) (data : Half) (bit : Nat) : Bool := laneHi be && data.getLsbD bit

/-- The two bytes of a halfword that the enabled lanes carry, low lane first (R202, R701). -/
def laneBytes (be : BitVec 2) (data : Half) : List Byte :=
  (if laneLo be then [data.extractLsb' 0 8] else []) ++ (if laneHi be then [data.extractLsb' 8 8] else [])

/-! ## Constant tables -/

/-- The prescaler divisors DIV, by the 2-bit prescaler select (R500). -/
def divisor (p : BitVec 2) : Nat :=
  match p.toNat with
  | 0 => 1
  | 1 => 64
  | 2 => 256
  | _ => 1024

/-- The duty patterns DUTY, position 0 first (R600). -/
def dutyPattern (d : BitVec 2) : List Bool :=
  match d.toNat with
  | 0 => [false, false, false, false, false, false, false, true]
  | 1 => [true, false, false, false, false, false, false, true]
  | 2 => [true, false, false, false, false, true, true, true]
  | _ => [false, true, true, true, true, true, true, false]

/-- DUTY[d][p] (R600). -/
def dutyBit (d : BitVec 2) (p : BitVec 3) : Bool := (dutyPattern d).getD p.toNat false

/-- The noise divisors NDIV (R600). -/
def noiseDivisor (r : BitVec 3) : Nat :=
  match r.toNat with
  | 0 => 8
  | 1 => 16
  | 2 => 32
  | 3 => 48
  | 4 => 64
  | 5 => 80
  | 6 => 96
  | _ => 112

/-- SQ_PERIOD (R600), 8..8192 APU steps. -/
def squarePeriod (freq : BitVec 11) : BitVec 14 := BitVec.ofNat 14 ((2048 - freq.toNat) * 4)

/-- WAVE_PERIOD (R600), 4..4096 APU steps. -/
def wavePeriod (freq : BitVec 11) : BitVec 13 := BitVec.ofNat 13 ((2048 - freq.toNat) * 2)

/-- NOISE_PERIOD (R600), at most 112 << 15 = 3670016 (C13). -/
def noisePeriod (r : BitVec 3) (s : BitVec 4) : BitVec 22 := BitVec.ofNat 22 (noiseDivisor r * 2 ^ s.toNat)

/-- `clamp(v, lo, hi)` (R12). -/
def clamp (v lo hi : Int) : Int := min hi (max lo v)

/-! ## Packed register fields (R107-R110, R601-R610) -/

/-- The duty and envelope register of a square channel, without the write-only length field (R602, R604). -/
def Square.dutyEnv (c : Square) : Half :=
  c.env.init ++ BitVec.ofBool c.env.dir ++ c.env.step ++ c.duty ++ 0#6

/-- A frequency and control register as stored: freq in bits 10:0 and len_en in bit 14 (R603, R605, R608). -/
def packControl (lenEn : Bool) (freq : BitVec 11) : Half :=
  0#1 ++ BitVec.ofBool lenEn ++ 0#3 ++ freq

/-- What a frequency and control register reads: len_en in bit 14, freq is write-only (R603). -/
def readControl (lenEn : Bool) : Half := 0#1 ++ BitVec.ofBool lenEn ++ 0#14

/-- The SOUND1CNT_L fields (R601). -/
def Sweep.pack (w : Sweep) : Half := 0#9 ++ w.time ++ BitVec.ofBool w.dir ++ w.shift

/-- The SOUND3CNT_L fields (R606). -/
def Wave.packSelect (w : Wave) : Half :=
  0#8 ++ BitVec.ofBool w.play ++ BitVec.ofBool w.bank ++ BitVec.ofBool w.dim ++ 0#5

/-- The SOUND3CNT_H fields, without the write-only length field (R607). -/
def Wave.packVolume (w : Wave) : Half := BitVec.ofBool w.force ++ w.vol ++ 0#13

/-- The SOUND4CNT_L fields, without the write-only length field (R609). -/
def Noise.packEnv (c : Noise) : Half := c.env.init ++ BitVec.ofBool c.env.dir ++ c.env.step ++ 0#8

/-- The SOUND4CNT_H fields (R610). -/
def Noise.packControl (c : Noise) : Half :=
  0#1 ++ BitVec.ofBool c.lenEn ++ 0#6 ++ c.s ++ BitVec.ofBool c.width ++ c.r

/-- The TMnCNT_H fields (R502). -/
def Timer.packControl (t : Timer) : Half :=
  0#8 ++ BitVec.ofBool t.enable ++ BitVec.ofBool t.irqEn ++ 0#3 ++ BitVec.ofBool t.cascade ++ t.prescaler

/-- The SOUNDCNT_L fields (R705). -/
def Apu.packMix (a : Apu) : Half := a.enL ++ a.enR ++ 0#1 ++ a.volL ++ 0#1 ++ a.volR

/-- The SOUNDBIAS fields (R708). -/
def Apu.packBias (a : Apu) : Half := a.resolution ++ 0#4 ++ a.bias

/-! ## The bus split (R203, R204, R331) -/

/-- One register transaction of the bus adapter. -/
inductive Transaction where
  | write (off : BitVec 12) (be : BitVec 2) (data : Half)
  | read (off : BitVec 12)
  deriving DecidableEq, Repr

/-- The transactions of a bus access, in ascending offset order (R203). -/
def BusAccess.split : BusAccess → List Transaction
  | .wr8 o v =>
    if o.getLsbD 0 then [.write (o &&& 0xFFE) 0b10 (v ++ 0#8)] else [.write (o &&& 0xFFE) 0b01 (0#8 ++ v)]
  | .rd8 o => [.read (o &&& 0xFFE)]
  | .wr16 o v => [.write (o &&& 0xFFE) 0b11 v]
  | .rd16 o => [.read (o &&& 0xFFE)]
  | .wr32 o v =>
    [.write (o &&& 0xFFC) 0b11 (v.extractLsb' 0 16), .write ((o &&& 0xFFC) + 2) 0b11 (v.extractLsb' 16 16)]
  | .rd32 o => [.read (o &&& 0xFFC), .read ((o &&& 0xFFC) + 2)]

/-- The command word of a transaction: REG_WRITE, or REG_READ with BE = 11 and DATA = 0 (R301, R331). -/
def Transaction.word : Transaction → Word
  | .write off be data => 0#2 ++ be ++ off.extractLsb' 1 11 ++ 0#1 ++ data
  | .read off => 1#2 ++ 3#2 ++ off.extractLsb' 1 11 ++ 0#1 ++ 0#16

/-- What a read access delivers, from the halfwords its transactions read, first one first (R203); `none` for a
write access. -/
def BusAccess.result (a : BusAccess) (hs : List Half) : Option (BitVec 32) :=
  match a, hs with
  | .rd8 o, h :: _ => some ((if o.getLsbD 0 then h.extractLsb' 8 8 else h.extractLsb' 0 8).setWidth 32)
  | .rd16 _, h :: _ => some (h.setWidth 32)
  | .rd32 _, lo :: hi :: _ => some (hi ++ lo)
  | _, _ => none

end Sys2Proof.Machine
end

