-- ==== Sys2Proof/Machine/Flags.lean ====
section
/-! DEFINITION. Flag and status computations: pending (R410), the interrupt level (R412), the timer
interrupt bits (R505, R910), the channel status bits (R707) and the invariants R902 guards. -/

namespace Sys2Proof.Machine

/-- The bits of IE, IF and wait_mask that exist (R103, R417). -/
def irqMask : Half := 0x3FFF

/-- `pending = IE & IF` (R410). -/
def pending (q : Irq) : Half := q.ie &&& q.flags

/-- `level = (IME = 1) and (pending != 0)` (R412, R911). -/
def irqLevel (ime : Bool) (pend : Half) : Bool := ime && pend != 0

/-- The wake condition of R411, for a CPU that is not Running. -/
def wakes (sc : Sched) (pend : Half) : Bool := pend != 0 && (!sc.waitActive || (pend &&& sc.waitMask) != 0)

/-- The 14 interrupt sources (R910). -/
inductive IrqSource where
  | vblank
  | hblank
  | vcount
  | timer (n : Fin 4)
  | serial
  | dma (ch : Fin 4)
  | keypad
  | gamePak
  deriving DecidableEq, Repr

/-- The bit of IE and IF that a source has (R910). -/
def sourceBit : IrqSource → Nat
  | .vblank => 0
  | .hblank => 1
  | .vcount => 2
  | .timer n => 3 + n.val
  | .serial => 7
  | .dma ch => 8 + ch.val
  | .keypad => 12
  | .gamePak => 13

/-- The overflow flag of timer n (R505, R910). -/
def timerFlag (n : Fin 4) : Half := 1#16 <<< sourceBit (.timer n)

/-- SOUNDCNT_X as read: master_en in bit 7, enabled[4..1] in bits 3:0 (R707). -/
def soundStatus (masterEn e1 e2 e3 e4 : Bool) : Half :=
  0#8 ++ BitVec.ofBool masterEn ++ 0#3 ++ BitVec.ofBool e4 ++ BitVec.ofBool e3 ++ BitVec.ofBool e2 ++ BitVec.ofBool e1

/-- SOUNDCNT_H as stored and read (R706): the strobes in bits 11 and 15 read 0. -/
def soundControl (ratio : BitVec 2) (a b : Fifo) : Half :=
  0#1 ++ BitVec.ofBool b.timer ++ BitVec.ofBool b.enL ++ BitVec.ofBool b.enR ++
  0#1 ++ BitVec.ofBool a.timer ++ BitVec.ofBool a.enL ++ BitVec.ofBool a.enR ++
  0#4 ++ BitVec.ofBool b.vol ++ BitVec.ofBool a.vol ++ ratio

/-- The top bits that a 14-bit register never holds are 0 (R103). -/
def fits14 (v : Half) : Bool := v &&& 0xC000 == 0

/-- The invariants FAULT_INVARIANT guards (R902). The bounds on counter, pre_acc, apu_phase, fs_counter,
audio_wait and wave_pos are their widths (R105, R106, R109), so no state breaks them. -/
def State.invariants (s : State) : Bool :=
  s.fifoA.queue.length ≤ Config.fifoDepth && s.fifoB.queue.length ≤ Config.fifoDepth &&
  s.ring.rb.length ≤ s.params.rbCap.val &&
  fits14 s.irq.ie && fits14 s.irq.flags && fits14 s.sched.waitMask &&
  s.sched.speed != 0 && !s.apu.bias.getLsbD 0 &&
  s.ch1.length ≤ 64 && s.ch2.length ≤ 64 && s.wave.length ≤ 256 && s.noise.length ≤ 64

end Sys2Proof.Machine
end

