-- ==== Sys2Proof/Machine/Ops.lean ====
section
/-! DEFINITION. The named operations over the state's storage and registers, and the block's three ways out
of a command (R900). The block takes no exception: "it saves no state, changes no mode, mask or stack and has
no vector" (R913), and has no return instruction (R914). What stands in an exception's place is one shared
operation each: `wake` and `signal` (steps 2 and 3 of a pass, R411, R412), `refuse` (R900 b) and `raiseFault`
(R900 c, R115). -/

namespace Sys2Proof.Machine

/-- The answer of every operation of the block: it completes. -/
abbrev Result := Host.Outcome State Fault Refusal

/-- The numeric values of the refusal codes (R901). -/
def errValue : ErrCode → Byte
  | .internalOnly => 0x01
  | .reservedOp => 0x02
  | .wrongPort => 0x03
  | .badBe => 0x04
  | .reservedBit => 0x05
  | .badConfig => 0x06
  | .reentrant => 0x07

/-- The numeric value of FAULT_INVARIANT (R901). -/
def faultValue : FaultCode → Byte
  | .invariant => 0x80

/-! ## Byte storage (log 20) -/

/-- What an address nobody has written reads as: the reset value of wave RAM (R109). -/
def Memory.unwritten : Byte := 0

/-- The byte at an address. -/
def Memory.read : Memory → Nat → Byte
  | [], _ => Memory.unwritten
  | (k, v) :: m, a => if k = a then v else Memory.read m a

/-- The cells of a memory without address `a`. -/
def Memory.erase (m : Memory) (a : Nat) : Memory := m.filter (fun c => c.1 != a)

/-- A cell put in its place in a rising list that does not hold its address. -/
def Memory.insert : Memory → Nat → Byte → Memory
  | [], a, v => [(a, v)]
  | (k, x) :: m, a, v => if a < k then (a, v) :: (k, x) :: m else (k, x) :: Memory.insert m a v

/-- Store a byte, keeping the canonical form. -/
def Memory.write (m : Memory) (a : Nat) (v : Byte) : Memory :=
  if v = Memory.unwritten then m.erase a else (m.erase a).insert a v

/-- The canonical form: addresses strictly rising, no cell that holds what an unlisted address reads as. -/
def Memory.wf : Memory → Bool
  | [] => true
  | (k, v) :: m => v != Memory.unwritten && m.all (fun c => decide (k < c.1)) && Memory.wf m

/-- The key of byte `k` of bank `b` of wave RAM: 16 b + k. -/
def waveKey (bank : Bool) (k : Nat) : Nat := bank.toNat * 16 + k

/-- wave_ram[bank][k] (R109). -/
def Wave.byte (w : Wave) (bank : Bool) (k : Nat) : Byte := w.ram.read (waveKey bank k)

/-- wave_ram[bank][k] <- v. -/
def Wave.setByte (w : Wave) (bank : Bool) (k : Nat) (v : Byte) : Wave :=
  { w with ram := w.ram.write (waveKey bank k) v }

/-! ## Ports and agents -/

/-- Send something to a port or an agent (R13 `emit`, R206, R900 b). -/
def State.emit (s : State) (o : Output) : State := { s with out := o :: s.out }

/-- A refusal: no state changes and (code, W) goes to the issuing port; the issuer continues (R900 b). -/
def State.refuse (s : State) (p : Port) (e : ErrCode) (w : Word) : State := s.emit (.refused p e w)

/-- `raise Fault(code)`: the code is added to the set `faults`, never cleared (R13, R115, R900 c). -/
def State.raiseFault (s : State) (c : FaultCode) : State :=
  if c ∈ s.faults then s else { s with faults := c :: s.faults }

/-- A register read: the value goes to the BUS port and no state changes (R206, R301). -/
def State.readResult (s : State) (v : Half) : State := s.emit (.readData v)

/-! ## Indexed registers -/

def State.timer (s : State) (n : Fin 4) : Timer := s.timers[n]

def State.setTimer (s : State) (n : Fin 4) (t : Timer) : State := { s with timers := s.timers.set n.val t n.isLt }

def State.fifo (s : State) : FifoId → Fifo
  | .a => s.fifoA
  | .b => s.fifoB

def State.setFifo (s : State) : FifoId → Fifo → State
  | .a, q => { s with fifoA := q }
  | .b, q => { s with fifoB := q }

/-! ## The interrupt and halt state machine -/

/-- The wake rule, step 2 of a pass (R411): IME is not read, Stopped wakes like Halted (D12), wait_mask keeps
its value. -/
def State.wake (s : State) (pend : Half) : State :=
  if s.sched.halt ≠ .running ∧ wakes s.sched pend then
    { s with sched := { s.sched with halt := .running, waitActive := false } }
  else s

/-- The interrupt signal, step 3 of a pass (R412): a level, with CPU.RaiseInterrupt called while it is 1 and
its rising edges counted (D13). -/
def State.signal (s : State) (pend : Half) : State :=
  let level := irqLevel s.irq.ime pend
  { s with
    sched := { s.sched with
      irqLine := level
      irqEdges := if level && !s.sched.irqLine then s.sched.irqEdges + 1 else s.sched.irqEdges }
    out := if level then .raiseInterrupt :: s.out else s.out }

/-- A request to leave Running (R413, R414): nothing happens unless the CPU is Running. -/
def State.leaveRunning (s : State) (h : HaltState) : State :=
  if s.sched.halt = .running then { s with sched := { s.sched with halt := h } } else s

/-- Set interrupt flags (R416, R505). -/
def State.setFlags (s : State) (bits : Half) : State :=
  { s with irq := { s.irq with flags := s.irq.flags ||| bits } }

/-! ## Waiting events -/

/-- Put events in front of those that wait: an operation's own events come before whatever waited when it
began. -/
def State.enqueue (s : State) (es : List Event) : State := { s with events := es ++ s.events }

/-- Load the operand registers from an event (R801, R821; log 9). -/
def State.loadArg (s : State) : EventArg → State
  | .none => s
  | .mixed l r => { s with args := { s.args with mixL := l, mixR := r } }
  | .output fr => { s with args := { s.args with push := fr } }

end Sys2Proof.Machine
end

