-- ==== Sys2Proof/Machine/Channels.lean ====
section
/-! DEFINITION. The PSG channel bank and the frame sequencer (43_psg_channels.md R600-R633). -/

namespace Sys2Proof.Machine

/-! ## Shared parts of a channel -/

/-- Load the envelope fields of a register value: bits 10:8, 11, 15:12 (R602, R609). -/
def Envelope.load (e : Envelope) (v : Half) : Envelope :=
  { e with step := v.extractLsb' 8 3, dir := v.getLsbD 11, init := v.extractLsb' 12 4 }

/-- A trigger's effect on the envelope (R629, R631). -/
def Envelope.trigger (e : Envelope) : Envelope := { e with volume := e.init, timer := e.step }

/-- An envelope clock of an enabled channel (R628). -/
def Envelope.clock (e : Envelope) : Envelope :=
  if e.step = 0 then e
  else if 1 < e.timer then { e with timer := e.timer - 1 }
  else
    { e with
      timer := e.step
      volume := if e.dir then (if e.volume < 15 then e.volume + 1 else e.volume)
                else (if 0 < e.volume then e.volume - 1 else e.volume) }

/-- A length load of a 6-bit field: 64 - L, when the low lane is enabled (R602, R604, R609). -/
def loadLength6 (be : BitVec 2) (data : Half) (old : BitVec 7) : BitVec 7 :=
  if laneLo be then 64 - (data.extractLsb' 0 6).setWidth 7 else old

/-- A length load of channel 3's 8-bit field: 256 - L, when the low lane is enabled (R607). -/
def loadLength8 (be : BitVec 2) (data : Half) (old : BitVec 9) : BitVec 9 :=
  if laneLo be then 256 - (data.extractLsb' 0 8).setWidth 9 else old

/-- A channel's length counter runs at a length clock (R626). -/
def lengthRuns {w : Nat} (enabled lenEn : Bool) (length : BitVec w) : Bool := enabled && lenEn && length != 0

/-- The sample of a channel that outputs its volume with a sign (R622, R624). -/
def signedVolume (enabled high : Bool) (volume : BitVec 4) : Int :=
  if enabled then (if high then (volume.toNat : Int) else -(volume.toNat : Int)) else 0

/-! ## Square channels -/

/-- TRIGGER_SQ, but for the sweep countdown of channel 1 (R629). -/
def Square.trigger (c : Square) : Square :=
  { c with
    enabled := true
    length := if c.length = 0 then 64 else c.length
    freqTimer := squarePeriod c.freq
    dutyPos := 0
    env := c.env.trigger }

/-- A write of the length, duty and envelope register (R602, R604). -/
def Square.writeDutyEnv (c : Square) (be : BitVec 2) (data : Half) : Square :=
  let v := merge be c.dutyEnv data &&& 0xFFC0
  { c with duty := v.extractLsb' 6 2, env := c.env.load v, length := loadLength6 be data c.length }

/-- A write of the frequency and control register; a trigger uses the freq it stores (R603, R605). -/
def Square.writeControl (c : Square) (be : BitVec 2) (data : Half) : Square :=
  let v := merge be (packControl c.lenEn c.freq) data &&& 0x47FF
  let c := { c with freq := v.extractLsb' 0 11, lenEn := v.getLsbD 14 }
  if strobe be data 15 then c.trigger else c

/-- SQ_TIMER (R621). -/
def Square.stepTimer (c : Square) : Square :=
  if !c.enabled then c
  else if 1 < c.freqTimer then { c with freqTimer := c.freqTimer - 1 }
  else { c with freqTimer := squarePeriod c.freq, dutyPos := c.dutyPos + 1 }

/-- SAMPLE_SQ (R622). -/
def Square.sample (c : Square) : Int := signedVolume c.enabled (dutyBit c.duty c.dutyPos) c.env.volume

/-- The length clock of one square channel (R626). -/
def Square.clockLength (c : Square) : Square :=
  if lengthRuns c.enabled c.lenEn c.length then
    { c with length := c.length - 1, enabled := c.length - 1 != 0 }
  else c

/-- The envelope clock of one square channel (R628). -/
def Square.clockEnvelope (c : Square) : Square := if c.enabled then { c with env := c.env.clock } else c

/-! ## Wave channel -/

/-- TRIGGER_WAVE (R630). -/
def Wave.trigger (c : Wave) : Wave :=
  { c with
    enabled := c.enabled || c.play
    length := if c.length = 0 then 256 else c.length
    freqTimer := wavePeriod c.freq
    pos := 0 }

/-- SOUND3CNT_L, write (R606). -/
def Wave.writeSelect (c : Wave) (be : BitVec 2) (data : Half) : Wave :=
  let v := merge be c.packSelect data &&& 0x00E0
  { c with dim := v.getLsbD 5, bank := v.getLsbD 6, play := v.getLsbD 7, enabled := c.enabled && v.getLsbD 7 }

/-- SOUND3CNT_H, write (R607). -/
def Wave.writeVolume (c : Wave) (be : BitVec 2) (data : Half) : Wave :=
  let v := merge be c.packVolume data &&& 0xE000
  { c with vol := v.extractLsb' 13 2, force := v.getLsbD 15, length := loadLength8 be data c.length }

/-- SOUND3CNT_X, write (R608). -/
def Wave.writeControl (c : Wave) (be : BitVec 2) (data : Half) : Wave :=
  let v := merge be (packControl c.lenEn c.freq) data &&& 0x47FF
  let c := { c with freq := v.extractLsb' 0 11, lenEn := v.getLsbD 14 }
  if strobe be data 15 then c.trigger else c

/-- WAVE_RAM, write: bytes 2k and 2k + 1 of the bank that is not selected for playback (R611). -/
def Wave.writeRam (c : Wave) (k : Fin 8) (be : BitVec 2) (data : Half) : Wave :=
  let c := if laneLo be then c.setByte (!c.bank) (2 * k.val) (data.extractLsb' 0 8) else c
  if laneHi be then c.setByte (!c.bank) (2 * k.val + 1) (data.extractLsb' 8 8) else c

/-- WAVE_RAM, read (R611). -/
def Wave.readRam (c : Wave) (k : Fin 8) : Half := c.byte (!c.bank) (2 * k.val + 1) ++ c.byte (!c.bank) (2 * k.val)

/-- WAVE_TIMER (R623). -/
def Wave.stepTimer (c : Wave) : Wave :=
  if !c.enabled then c
  else if 1 < c.freqTimer then { c with freqTimer := c.freqTimer - 1 }
  else
    { c with
      freqTimer := wavePeriod c.freq
      pos := BitVec.ofNat 6 ((c.pos.toNat + 1) % (if c.dim then 64 else 32)) }

/-- The nibble s that SAMPLE_WAVE reads (R623): sample j of a bank is the high nibble of byte j / 2 when j is even
(R611). -/
def Wave.nibble (c : Wave) : BitVec 4 :=
  let bank := if c.pos < 32 then c.bank else !c.bank
  let j := c.pos.toNat % 32
  let b := c.byte bank (j / 2)
  if j % 2 = 0 then b.extractLsb' 4 4 else b.extractLsb' 0 4

/-- SAMPLE_WAVE (R623). Division of an Int by 2 or 4 rounds toward minus infinity, like `>>` (R12). -/
def Wave.sample (c : Wave) : Int :=
  if !c.enabled then 0
  else
    let w : Int := 2 * (c.nibble.toNat : Int) - 15
    if c.force then 3 * w / 4
    else
      match c.vol.toNat with
      | 0 => 0
      | 1 => w
      | 2 => w / 2
      | _ => w / 4

/-- The length clock of channel 3 (R626). -/
def Wave.clockLength (c : Wave) : Wave :=
  if lengthRuns c.enabled c.lenEn c.length then
    { c with length := c.length - 1, enabled := c.length - 1 != 0 }
  else c

/-! ## Noise channel -/

/-- TRIGGER_NOISE (R631). -/
def Noise.trigger (c : Noise) : Noise :=
  { c with
    enabled := true
    length := if c.length = 0 then 64 else c.length
    freqTimer := noisePeriod c.r c.s
    lfsr := if c.width then 0x40 else 0x4000
    out := false
    env := c.env.trigger }

/-- SOUND4CNT_L, write (R609). -/
def Noise.writeEnv (c : Noise) (be : BitVec 2) (data : Half) : Noise :=
  let v := merge be c.packEnv data &&& 0xFF00
  { c with env := c.env.load v, length := loadLength6 be data c.length }

/-- SOUND4CNT_H, write (R610). -/
def Noise.writeControl (c : Noise) (be : BitVec 2) (data : Half) : Noise :=
  let v := merge be c.packControl data &&& 0x40FF
  let c := { c with r := v.extractLsb' 0 3, width := v.getLsbD 3, s := v.extractLsb' 4 4, lenEn := v.getLsbD 14 }
  if strobe be data 15 then c.trigger else c

/-- One clock of the LFSR: the new value and the carry (R624). -/
def lfsrNext (width : Bool) (l : BitVec 15) : BitVec 15 :=
  if l.getLsbD 0 then (l >>> 1) ^^^ (if width then 0x60 else 0x6000) else l >>> 1

/-- NOISE_TIMER (R624). -/
def Noise.stepTimer (c : Noise) : Noise :=
  if !c.enabled || 14 ≤ c.s then c
  else if 1 < c.freqTimer then { c with freqTimer := c.freqTimer - 1 }
  else { c with freqTimer := noisePeriod c.r c.s, lfsr := lfsrNext c.width c.lfsr, out := c.lfsr.getLsbD 0 }

/-- SAMPLE_NOISE (R624). -/
def Noise.sample (c : Noise) : Int := signedVolume c.enabled c.out c.env.volume

/-- The length clock of channel 4 (R626). -/
def Noise.clockLength (c : Noise) : Noise :=
  if lengthRuns c.enabled c.lenEn c.length then
    { c with length := c.length - 1, enabled := c.length - 1 != 0 }
  else c

/-- The envelope clock of channel 4 (R628). -/
def Noise.clockEnvelope (c : Noise) : Noise := if c.enabled then { c with env := c.env.clock } else c

/-! ## Register writes -/

/-- SOUND1CNT_L, write (R601). -/
def writeSound1cntL (be : BitVec 2) (data : Half) (s : State) : State :=
  let v := merge be s.sweep.pack data &&& 0x007F
  { s with sweep := { s.sweep with shift := v.extractLsb' 0 3, dir := v.getLsbD 3, time := v.extractLsb' 4 3 } }

/-- SOUND1CNT_H, write (R602). -/
def writeSound1cntH (be : BitVec 2) (data : Half) (s : State) : State :=
  { s with ch1 := s.ch1.writeDutyEnv be data }

/-- SOUND1CNT_X, write; a trigger of channel 1 also reloads the sweep countdown (R603, R629). -/
def writeSound1cntX (be : BitVec 2) (data : Half) (s : State) : State :=
  { s with
    ch1 := s.ch1.writeControl be data
    sweep := if strobe be data 15 then { s.sweep with timer := s.sweep.time } else s.sweep }

/-- SOUND2CNT_L, write (R604). -/
def writeSound2cntL (be : BitVec 2) (data : Half) (s : State) : State :=
  { s with ch2 := s.ch2.writeDutyEnv be data }

/-- SOUND2CNT_H, write (R605). -/
def writeSound2cntH (be : BitVec 2) (data : Half) (s : State) : State :=
  { s with ch2 := s.ch2.writeControl be data }

/-- SOUND3CNT_L, write (R606). -/
def writeSound3cntL (be : BitVec 2) (data : Half) (s : State) : State :=
  { s with wave := s.wave.writeSelect be data }

/-- SOUND3CNT_H, write (R607). -/
def writeSound3cntH (be : BitVec 2) (data : Half) (s : State) : State :=
  { s with wave := s.wave.writeVolume be data }

/-- SOUND3CNT_X, write (R608). -/
def writeSound3cntX (be : BitVec 2) (data : Half) (s : State) : State :=
  { s with wave := s.wave.writeControl be data }

/-- SOUND4CNT_L, write (R609). -/
def writeSound4cntL (be : BitVec 2) (data : Half) (s : State) : State :=
  { s with noise := s.noise.writeEnv be data }

/-- SOUND4CNT_H, write (R610). -/
def writeSound4cntH (be : BitVec 2) (data : Half) (s : State) : State :=
  { s with noise := s.noise.writeControl be data }

/-- WAVE_RAM, write (R611). -/
def writeWaveRam (k : Fin 8) (be : BitVec 2) (data : Half) (s : State) : State :=
  { s with wave := s.wave.writeRam k be data }

/-! ## The channel step and the frame sequencer -/

/-- LENGTH_CLOCK (R626). -/
def lengthClock (s : State) : State :=
  { s with
    ch1 := s.ch1.clockLength
    ch2 := s.ch2.clockLength
    wave := s.wave.clockLength
    noise := s.noise.clockLength }

/-- The frequency a sweep computes, before the overflow test (R627). -/
def sweepTarget (freq : BitVec 11) (w : Sweep) : Nat :=
  let delta := freq.toNat / 2 ^ w.shift.toNat
  if w.dir then freq.toNat - delta else freq.toNat + delta

/-- SWEEP_CLOCK (R627). -/
def sweepClock (s : State) : State :=
  if !s.ch1.enabled || s.sweep.time = 0 then s
  else if 1 < s.sweep.timer then { s with sweep := { s.sweep with timer := s.sweep.timer - 1 } }
  else
    let s' := { s with sweep := { s.sweep with timer := s.sweep.time } }
    let new := sweepTarget s.ch1.freq s.sweep
    if 2047 < new then { s' with ch1 := { s.ch1 with enabled := false } }
    else if s.sweep.shift ≠ 0 then { s' with ch1 := { s.ch1 with freq := BitVec.ofNat 11 new } }
    else s'

/-- ENVELOPE_CLOCK (R628). -/
def envelopeClock (s : State) : State :=
  { s with ch1 := s.ch1.clockEnvelope, ch2 := s.ch2.clockEnvelope, noise := s.noise.clockEnvelope }

/-- FS_CLOCK (R625): length at 0, 2, 4, 6; sweep at 2, 6 after it; envelope at 7. -/
def fsClock (s : State) : State :=
  let n := s.apu.fsStep.toNat
  let s := if n % 2 = 0 then lengthClock s else s
  let s := if n % 4 = 2 then sweepClock s else s
  let s := if n = 7 then envelopeClock s else s
  { s with apu := { s.apu with fsStep := s.apu.fsStep + 1 } }

/-- The four frequency timers, in order (R620-R624). -/
def stepTimers (s : State) : State :=
  { s with
    ch1 := s.ch1.stepTimer
    ch2 := s.ch2.stepTimer
    wave := s.wave.stepTimer
    noise := s.noise.stepTimer }

/-- APU_STEP (R620). -/
def apuStep (s : State) : State :=
  let s := stepTimers s
  if s.apu.fsCounter.toNat + 1 = Config.fsPeriod then
    fsClock { s with apu := { s.apu with fsCounter := 0 } }
  else { s with apu := { s.apu with fsCounter := s.apu.fsCounter + 1 } }

/-! ## Meanings -/

/-- REG_WRITE SOUND1CNT_L (R601). -/
def execRegWriteSound1cntL (be : BitVec 2) (data : Half) (s : State) : Result := .next (writeSound1cntL be data s)

/-- REG_READ SOUND1CNT_L (R601). -/
def execRegReadSound1cntL (s : State) : Result := .next (s.readResult s.sweep.pack)

/-- REG_WRITE SOUND1CNT_H (R602). -/
def execRegWriteSound1cntH (be : BitVec 2) (data : Half) (s : State) : Result := .next (writeSound1cntH be data s)

/-- REG_READ SOUND1CNT_H (R602). -/
def execRegReadSound1cntH (s : State) : Result := .next (s.readResult s.ch1.dutyEnv)

/-- REG_WRITE SOUND1CNT_X (R603). -/
def execRegWriteSound1cntX (be : BitVec 2) (data : Half) (s : State) : Result := .next (writeSound1cntX be data s)

/-- REG_READ SOUND1CNT_X (R603). -/
def execRegReadSound1cntX (s : State) : Result := .next (s.readResult (readControl s.ch1.lenEn))

/-- REG_WRITE SOUND2CNT_L (R604). -/
def execRegWriteSound2cntL (be : BitVec 2) (data : Half) (s : State) : Result := .next (writeSound2cntL be data s)

/-- REG_READ SOUND2CNT_L (R604). -/
def execRegReadSound2cntL (s : State) : Result := .next (s.readResult s.ch2.dutyEnv)

/-- REG_WRITE SOUND2CNT_H (R605). -/
def execRegWriteSound2cntH (be : BitVec 2) (data : Half) (s : State) : Result := .next (writeSound2cntH be data s)

/-- REG_READ SOUND2CNT_H (R605). -/
def execRegReadSound2cntH (s : State) : Result := .next (s.readResult (readControl s.ch2.lenEn))

/-- REG_WRITE SOUND3CNT_L (R606). -/
def execRegWriteSound3cntL (be : BitVec 2) (data : Half) (s : State) : Result := .next (writeSound3cntL be data s)

/-- REG_READ SOUND3CNT_L (R606). -/
def execRegReadSound3cntL (s : State) : Result := .next (s.readResult s.wave.packSelect)

/-- REG_WRITE SOUND3CNT_H (R607). -/
def execRegWriteSound3cntH (be : BitVec 2) (data : Half) (s : State) : Result := .next (writeSound3cntH be data s)

/-- REG_READ SOUND3CNT_H (R607). -/
def execRegReadSound3cntH (s : State) : Result := .next (s.readResult s.wave.packVolume)

/-- REG_WRITE SOUND3CNT_X (R608). -/
def execRegWriteSound3cntX (be : BitVec 2) (data : Half) (s : State) : Result := .next (writeSound3cntX be data s)

/-- REG_READ SOUND3CNT_X (R608). -/
def execRegReadSound3cntX (s : State) : Result := .next (s.readResult (readControl s.wave.lenEn))

/-- REG_WRITE SOUND4CNT_L (R609). -/
def execRegWriteSound4cntL (be : BitVec 2) (data : Half) (s : State) : Result := .next (writeSound4cntL be data s)

/-- REG_READ SOUND4CNT_L (R609). -/
def execRegReadSound4cntL (s : State) : Result := .next (s.readResult s.noise.packEnv)

/-- REG_WRITE SOUND4CNT_H (R610). -/
def execRegWriteSound4cntH (be : BitVec 2) (data : Half) (s : State) : Result := .next (writeSound4cntH be data s)

/-- REG_READ SOUND4CNT_H (R610). -/
def execRegReadSound4cntH (s : State) : Result := .next (s.readResult s.noise.packControl)

/-- REG_WRITE WAVE_RAM[k] (R611). -/
def execRegWriteWaveRam (k : Fin 8) (be : BitVec 2) (data : Half) (s : State) : Result :=
  .next (writeWaveRam k be data s)

/-- REG_READ WAVE_RAM[k] (R611). -/
def execRegReadWaveRam (k : Fin 8) (s : State) : Result := .next (s.readResult (s.wave.readRam k))

/-- EVT APU_STEP (R620). -/
def execEvtApuStep (s : State) : Result := .next (apuStep s)

/-- EVT FS_CLOCK (R625). -/
def execEvtFsClock (s : State) : Result := .next (fsClock s)

/-- EVT LENGTH_CLOCK (R626). -/
def execEvtLengthClock (s : State) : Result := .next (lengthClock s)

/-- EVT SWEEP_CLOCK (R627). -/
def execEvtSweepClock (s : State) : Result := .next (sweepClock s)

/-- EVT ENVELOPE_CLOCK (R628). -/
def execEvtEnvelopeClock (s : State) : Result := .next (envelopeClock s)

end Sys2Proof.Machine
end

