-- ==== Sys2Proof/Machine/Sound.lean ====
section
/-! DEFINITION. The direct-sound FIFOs and the sound control registers (44_fifo_mixer.md R700-R708, R712). -/

namespace Sys2Proof.Machine

/-! ## FIFO operations -/

/-- PUSH of one sample: discarded when the FIFO is full (R701). -/
def Fifo.push (q : Fifo) (x : Byte) : Fifo :=
  if q.queue.length < Config.fifoDepth then { q with queue := q.queue ++ [x] } else q

/-- A write of either half of a FIFO register: the enabled lanes' bytes, low lane first (R701, R702). -/
def Fifo.write (q : Fifo) (be : BitVec 2) (data : Half) : Fifo := (laneBytes be data).foldl Fifo.push q

/-- The head sample moves to the latch; an empty FIFO keeps its latch (R703). -/
def Fifo.pop (q : Fifo) : Fifo :=
  match q.queue with
  | [] => q
  | x :: xs => { q with latch := x, queue := xs }

/-- FIFO_DRAIN(f): pop, then request DMA when the FIFO is at or below the threshold (R703, R712). -/
def fifoDrain (f : FifoId) (s : State) : State :=
  let q := (s.fifo f).pop
  if q.queue.length ≤ Config.fifoDmaThreshold then
    (s.setFifo f { q with requests := q.requests + 1 }).emit (.dmaFifoRequest f)
  else s.setFifo f q

/-- The SOUNDCNT_H fields of one FIFO, from bit positions of the written value, and its reset strobe, which
keeps the latch (R704, R706). -/
def Fifo.control (q : Fifo) (vol enR enL timer reset : Bool) : Fifo :=
  { q with vol := vol, enR := enR, enL := enL, timer := timer, queue := if reset then [] else q.queue }

/-! ## Register writes -/

/-- FIFO_A, write (R701). -/
def writeFifoA (be : BitVec 2) (data : Half) (s : State) : State := { s with fifoA := s.fifoA.write be data }

/-- FIFO_B, write (R702). -/
def writeFifoB (be : BitVec 2) (data : Half) (s : State) : State := { s with fifoB := s.fifoB.write be data }

/-- SOUNDCNT_L, write (R705). -/
def writeSoundcntL (be : BitVec 2) (data : Half) (s : State) : State :=
  let v := merge be s.apu.packMix data &&& 0xFF77
  { s with apu := { s.apu with
      volR := v.extractLsb' 0 3, volL := v.extractLsb' 4 3, enR := v.extractLsb' 8 4, enL := v.extractLsb' 12 4 } }

/-- SOUNDCNT_H, write (R704, R706). -/
def writeSoundcntH (be : BitVec 2) (data : Half) (s : State) : State :=
  let v := merge be (soundControl s.apu.psgRatio s.fifoA s.fifoB) data &&& 0x770F
  { s with
    apu := { s.apu with psgRatio := v.extractLsb' 0 2 }
    fifoA := s.fifoA.control (v.getLsbD 2) (v.getLsbD 8) (v.getLsbD 9) (v.getLsbD 10) (strobe be data 11)
    fifoB := s.fifoB.control (v.getLsbD 3) (v.getLsbD 12) (v.getLsbD 13) (v.getLsbD 14) (strobe be data 15) }

/-- All four channels are disabled (R707). -/
def disableChannels (s : State) : State :=
  { s with
    ch1 := { s.ch1 with enabled := false }
    ch2 := { s.ch2 with enabled := false }
    wave := { s.wave with enabled := false }
    noise := { s.noise with enabled := false } }

/-- SOUNDCNT_X, write: master_en, whose 1 -> 0 transition disables the channels (R707). -/
def writeSoundcntX (be : BitVec 2) (data : Half) (s : State) : State :=
  if laneLo be then
    let s' := if s.apu.masterEn && !data.getLsbD 7 then disableChannels s else s
    { s' with apu := { s'.apu with masterEn := data.getLsbD 7 } }
  else s

/-- SOUNDCNT_X, read (R707). -/
def readSoundcntX (s : State) : Half :=
  soundStatus s.apu.masterEn s.ch1.enabled s.ch2.enabled s.wave.enabled s.noise.enabled

/-- SOUNDBIAS, write (R708). -/
def writeSoundbias (be : BitVec 2) (data : Half) (s : State) : State :=
  let v := merge be s.apu.packBias data &&& 0xC3FE
  { s with apu := { s.apu with bias := v.extractLsb' 0 10, resolution := v.extractLsb' 14 2 } }

/-! ## Meanings -/

/-- REG_WRITE FIFO_A[h]: both halves push to the same queue (R701). -/
def execRegWriteFifoA (_h : Fin 2) (be : BitVec 2) (data : Half) (s : State) : Result :=
  .next (writeFifoA be data s)

/-- REG_READ FIFO_A[h]: 0x0000 (R701). -/
def execRegReadFifoA (_h : Fin 2) (s : State) : Result := .next (s.readResult 0)

/-- REG_WRITE FIFO_B[h] (R702). -/
def execRegWriteFifoB (_h : Fin 2) (be : BitVec 2) (data : Half) (s : State) : Result :=
  .next (writeFifoB be data s)

/-- REG_READ FIFO_B[h]: 0x0000 (R702). -/
def execRegReadFifoB (_h : Fin 2) (s : State) : Result := .next (s.readResult 0)

/-- REG_WRITE SOUNDCNT_L (R705). -/
def execRegWriteSoundcntL (be : BitVec 2) (data : Half) (s : State) : Result := .next (writeSoundcntL be data s)

/-- REG_READ SOUNDCNT_L (R705). -/
def execRegReadSoundcntL (s : State) : Result := .next (s.readResult s.apu.packMix)

/-- REG_WRITE SOUNDCNT_H (R706). -/
def execRegWriteSoundcntH (be : BitVec 2) (data : Half) (s : State) : Result := .next (writeSoundcntH be data s)

/-- REG_READ SOUNDCNT_H (R706). -/
def execRegReadSoundcntH (s : State) : Result :=
  .next (s.readResult (soundControl s.apu.psgRatio s.fifoA s.fifoB))

/-- REG_WRITE SOUNDCNT_X (R707). -/
def execRegWriteSoundcntX (be : BitVec 2) (data : Half) (s : State) : Result := .next (writeSoundcntX be data s)

/-- REG_READ SOUNDCNT_X (R707). -/
def execRegReadSoundcntX (s : State) : Result := .next (s.readResult (readSoundcntX s))

/-- REG_WRITE SOUNDBIAS (R708). -/
def execRegWriteSoundbias (be : BitVec 2) (data : Half) (s : State) : Result := .next (writeSoundbias be data s)

/-- REG_READ SOUNDBIAS (R708). -/
def execRegReadSoundbias (s : State) : Result := .next (s.readResult s.apu.packBias)

/-- EVT FIFO_DRAIN(f) (R703). -/
def execEvtFifoDrain (f : FifoId) (s : State) : Result := .next (fifoDrain f s)

end Sys2Proof.Machine
end

