-- ==== Sys2Proof/Machine/Output.lean ====
section
/-! DEFINITION. The mixer (R710, R711), the resampler's reference instance (R801, R805; log 10), binary32
rounding (R805; log 11) and the ring buffer (R820-R826). -/

namespace Sys2Proof.Machine

/-! ## Mixer (R710) -/

/-- The sum of the channel samples that one side enables (R710). -/
def psgSum (en : BitVec 4) (s : State) : Int :=
  (if en.getLsbD 0 then s.ch1.sample else 0) + (if en.getLsbD 1 then s.ch2.sample else 0) +
  (if en.getLsbD 2 then s.wave.sample else 0) + (if en.getLsbD 3 then s.noise.sample else 0)

/-- RATIO[psg_ratio]: code 3 is the open parameter PSG_RATIO3 (R710, D33). -/
def psgRatio (c : Config.Params) (code : BitVec 2) : Int :=
  match code.toNat with
  | 0 => 1
  | 1 => 2
  | 2 => 4
  | _ => c.psgRatio3

/-- One FIFO's term on a side that enables it (R710). -/
def Fifo.term (q : Fifo) (en : Bool) : Int := if en then q.latch.toInt * (if q.vol then 2 else 1) else 0

/-- One side's mixed value m, -512..511 (R710). Division by 4 rounds toward minus infinity. -/
def mixSide (s : State) (vol : BitVec 3) (en : BitVec 4) (enA enB : Bool) : Int :=
  let psg := psgSum en s * ((vol.toNat : Int) + 1) * psgRatio s.params s.apu.psgRatio / 4
  let fifo := s.fifoA.term enA + s.fifoB.term enB
  clamp ((if s.apu.masterEn then psg + fifo else 0) + (s.apu.bias.toNat : Int)) 0 1023 - 512

/-- m[L] (R710). -/
def mixLeft (s : State) : Int := mixSide s s.apu.volL s.apu.enL s.fifoA.enL s.fifoB.enL

/-- m[R] (R710). -/
def mixRight (s : State) : Int := mixSide s s.apu.volR s.apu.enR s.fifoA.enR s.fifoB.enR

/-! ## binary32 (R805) -/

/-- floor(log2(a / d)) for positive a and d. -/
def log2Ratio (a d : Nat) : Int :=
  let e : Int := (a.log2 : Int) - (d.log2 : Int)
  if d * 2 ^ e.toNat ≤ a * 2 ^ (-e).toNat then e else e - 1

/-- a / d rounded to the nearest integer, ties to even. -/
def roundHalfEven (a d : Nat) : Nat :=
  let q := a / d
  let r := a % d
  if 2 * r < d then q else if d < 2 * r then q + 1 else q + q % 2

/-- The exponent of the last place of the binary32 values around a / d: 23 below the leading bit, and never
below the subnormals' 2^-149. -/
def lastPlace (a d : Nat) : Int := max (log2Ratio a d) (-126) - 23

/-- The bits of the binary32 nearest to the positive rational a / d, ties to even; a value above the largest
finite one gives the code of infinity (log 11). -/
def roundMagnitude (a d : Nat) : Nat :=
  let e := lastPlace a d
  min ((e + 149).toNat * 2 ^ 23 + roundHalfEven (a * 2 ^ (-e).toNat) (d * 2 ^ e.toNat)) 0x7F800000

/-- `round_f32` (R805). -/
def roundF32 (q : Rat) : BitVec 32 :=
  if q.num = 0 then 0
  else BitVec.ofBool (q.num < 0) ++ BitVec.ofNat 31 (roundMagnitude q.num.natAbs q.den)

/-- The rational a finite binary32 stands for. -/
def f32Value (b : BitVec 32) : Rat :=
  let expo := (b.extractLsb' 23 8).toNat
  let frac := (b.extractLsb' 0 23).toNat
  let mag : Rat := if expo = 0 then (frac : Rat) / 2 ^ 149 else ((2 ^ 23 + frac : Nat) : Rat) * 2 ^ expo / 2 ^ 150
  if b.getLsbD 31 then -mag else mag

/-! ## Resampler (R801, R805) -/

/-- Linear interpolation between the previous input and the present one (R805). -/
def interpolate (prev x phase : Rat) : Rat := prev + (x - prev) * phase

/-- The output of one round of feed's loop (R805). -/
def Resampler.output (r : Resampler) (xl xr phase : Rat) : Frame :=
  ⟨roundF32 (interpolate r.prevL xl phase), roundF32 (interpolate r.prevR xr phase)⟩

/-- How often feed's loop runs from a phase: the least n with phase + n * step >= 1. -/
def feedRounds (step phase : Rat) : Nat := ((1 - phase) / step).ceil.toNat

/-- feed's loop, for at most `fuel` rounds: the outputs and the phase it ends with (R805). -/
def Resampler.feedLoop (r : Resampler) (step xl xr : Rat) : Nat → Rat → List Frame × Rat
  | 0, phase => ([], phase)
  | fuel + 1, phase =>
    if phase < 1 then
      let rest := r.feedLoop step xl xr fuel (phase + step)
      (r.output xl xr phase :: rest.1, rest.2)
    else ([], phase)

/-- feed(x) (R805): the outputs and the new resampler state. -/
def Resampler.feed (r : Resampler) (step xl xr : Rat) : List Frame × Resampler :=
  let run := r.feedLoop step xl xr (feedRounds step r.phase) r.phase
  (run.1, { prevL := xl, prevR := xr, phase := run.2 - 1 })

/-- The RING_PUSH event of an output frame (R801, R821). -/
def pushEvent (fr : Frame) : Event := { word := encode .evtRingPush, arg := .output fr }

/-- RESAMPLE of the frame in the operand registers. Each output becomes a RING_PUSH of its own, waiting in
order, because a RING_POP may come between any two of them (R801, R222; log 7). -/
def resample (s : State) : State :=
  let run := s.resampler.feed s.params.rsStep s.args.mixL s.args.mixR
  { s with resampler := run.2 }.enqueue (run.1.map pushEvent)

/-- MIX (R710): the mixed frame is the operand of RESAMPLE. -/
def mix (s : State) : State :=
  resample { s with args := { s.args with mixL := (mixLeft s : Rat) / 512, mixR := (mixRight s : Rat) / 512 } }

/-! ## Ring buffer (R820-R823) -/

/-- RING_PUSH of the frame in the operand register (R821). Under Block a full ring holds the producer: the push
goes back to the head of the waiting events and is all that emulation can do next (R823; log 8). -/
def ringPush (s : State) : State :=
  if s.ring.rb.length < s.params.rbCap.val then { s with ring := { s.ring with rb := s.ring.rb ++ [s.args.push] } }
  else
    match s.params.rbPolicy with
    | .dropOldest =>
      { s with ring := { s.ring with rb := s.ring.rb.tail ++ [s.args.push], dropped := s.ring.dropped + 1 } }
    | .block => s.enqueue [pushEvent s.args.push]

/-- The producer holds: under Block the oldest waiting event is a RING_PUSH and the ring is full. The emulation
thread, whose agents the block, the CPU, the DMA engine, the interrupt sources and the host are (R935), then has no
enabled step until a RING_POP makes room (R823, R1031). -/
def State.held (s : State) : Bool :=
  match s.events with
  | [] => false
  | e :: _ =>
    e.word == encode .evtRingPush && s.params.rbPolicy == .block && decide (s.params.rbCap.val ≤ s.ring.rb.length)

/-- The silence frame (+0.0, +0.0) (R822). -/
def silence : Frame := ⟨0, 0⟩

/-- What RING_POP returns (R822). -/
def popFrames (pad : Bool) (count : Nat) (rb : List Frame) : List Frame :=
  rb.take count ++ (if pad then List.replicate (count - rb.length) silence else [])

/-- RING_POP(pad, count) (R822). -/
def ringPop (pad : Bool) (count : Half) (s : State) : State :=
  let n := count.toNat
  { s with ring := { s.ring with
      rb := s.ring.rb.drop n
      underruns := if s.ring.rb.length < n then s.ring.underruns + 1 else s.ring.underruns } }.emit
    (.frames (popFrames pad n s.ring.rb))

/-! ## Meanings -/

/-- EVT MIX (R710). -/
def execEvtMix (s : State) : Result := .next (mix s)

/-- EVT RESAMPLE (R801). -/
def execEvtResample (s : State) : Result := .next (resample s)

/-- EVT RING_PUSH (R821). -/
def execEvtRingPush (s : State) : Result := .next (ringPush s)

/-- RING_POP (R822). -/
def execRingPop (pad : Bool) (count : Half) (s : State) : Result := .next (ringPop pad count s)

end Sys2Proof.Machine
end

