-- ==== Sys2Proof/Machine/Interrupts.lean ====
section
/-! DEFINITION. The interrupt registers, HALTCNT and the CPU and IRQSRC commands (R413-R421). -/

namespace Sys2Proof.Machine

/-! ## Operations -/

/-- IE, write (R417). -/
def writeIe (be : BitVec 2) (data : Half) (s : State) : State :=
  { s with irq := { s.irq with ie := merge be s.irq.ie data &&& irqMask } }

/-- IF, write 1 to clear (R418). -/
def writeIf (be : BitVec 2) (data : Half) (s : State) : State :=
  { s with irq := { s.irq with flags := s.irq.flags &&& ~~~(data &&& lanes be &&& irqMask) } }

/-- IME, write (R419). -/
def writeIme (be : BitVec 2) (data : Half) (s : State) : State :=
  if laneLo be then { s with irq := { s.irq with ime := data.getLsbD 0 } } else s

/-- IME, read (R419). -/
def readIme (s : State) : Half := (BitVec.ofBool s.irq.ime).setWidth 16

/-- CPU_HALT (R413). -/
def cpuHalt (s : State) : State := s.leaveRunning .halted

/-- CPU_STOP (R414). -/
def cpuStop (s : State) : State := s.leaveRunning .stopped

/-- CPU_INTRWAIT (R415). -/
def cpuIntrwait (mask : BitVec 14) (s : State) : State :=
  if s.sched.halt = .running then
    { s with sched := { s.sched with waitActive := true, waitMask := mask.setWidth 16, halt := .halted } }
  else s

/-- IRQ_REQUEST (R416). -/
def irqRequest (bits : BitVec 14) (s : State) : State := s.setFlags (bits.setWidth 16)

/-- HALTCNT, write: only the high lane belongs to the block; bit 15 chooses stop (R421). -/
def writeHaltcnt (be : BitVec 2) (data : Half) (s : State) : State :=
  if laneHi be then (if data.getLsbD 15 then cpuStop s else cpuHalt s) else s

/-! ## Meanings -/

/-- REG_WRITE IE (R417). -/
def execRegWriteIe (be : BitVec 2) (data : Half) (s : State) : Result := .next (writeIe be data s)

/-- REG_READ IE (R417). -/
def execRegReadIe (s : State) : Result := .next (s.readResult s.irq.ie)

/-- REG_WRITE IF (R418). -/
def execRegWriteIf (be : BitVec 2) (data : Half) (s : State) : Result := .next (writeIf be data s)

/-- REG_READ IF (R418). -/
def execRegReadIf (s : State) : Result := .next (s.readResult s.irq.flags)

/-- REG_WRITE IME (R419). -/
def execRegWriteIme (be : BitVec 2) (data : Half) (s : State) : Result := .next (writeIme be data s)

/-- REG_READ IME (R419). -/
def execRegReadIme (s : State) : Result := .next (s.readResult (readIme s))

/-- REG_WRITE HALTCNT (R421). -/
def execRegWriteHaltcnt (be : BitVec 2) (data : Half) (s : State) : Result := .next (writeHaltcnt be data s)

/-- REG_READ HALTCNT: 0x0000 (R421). -/
def execRegReadHaltcnt (s : State) : Result := .next (s.readResult 0)

/-- CPU_HALT (R413). -/
def execCpuHalt (s : State) : Result := .next (cpuHalt s)

/-- CPU_STOP (R414). -/
def execCpuStop (s : State) : Result := .next (cpuStop s)

/-- CPU_INTRWAIT (R415). -/
def execCpuIntrwait (mask : BitVec 14) (s : State) : Result := .next (cpuIntrwait mask s)

/-- IRQ_REQUEST (R416). -/
def execIrqRequest (bits : BitVec 14) (s : State) : Result := .next (irqRequest bits s)

end Sys2Proof.Machine
end

