-- ==== Sys2Proof/Machine/Timers.lean ====
section
/-! DEFINITION. The timer cascade controller (42_timers.md R500-R509). -/

namespace Sys2Proof.Machine

/-! ## Registers -/

/-- TMnCNT_L, write: the reload; the counter is not changed (R501). -/
def writeTmcntL (n : Fin 4) (be : BitVec 2) (data : Half) (s : State) : State :=
  let t := s.timer n
  s.setTimer n { t with reload := merge be t.reload data }

/-- The timer after a write of TMnCNT_H: a start loads the counter and clears the prescaler accumulator
(R502, D19). -/
def Timer.writeControl (t : Timer) (be : BitVec 2) (data : Half) : Timer :=
  let v := merge be t.packControl data &&& 0x00C7
  let t' := { t with
    prescaler := v.extractLsb' 0 2, cascade := v.getLsbD 2, irqEn := v.getLsbD 6, enable := v.getLsbD 7 }
  if !t.enable && v.getLsbD 7 then { t' with counter := t.reload, preAcc := 0 } else t'

/-- TMnCNT_H, write (R502). -/
def writeTmcntH (n : Fin 4) (be : BitVec 2) (data : Half) (s : State) : State :=
  s.setTimer n ((s.timer n).writeControl be data)

/-! ## Events -/

/-- Overflow of timer n drains FIFO f: f selects timer n, and n is 0 or 1 (R505). -/
def drains (n : Fin 4) (q : Fifo) : Bool := n.val == q.timer.toNat

/-- TIMER_OVERFLOW(n) up to its cascade: reload, count, interrupt flag, FIFO A then FIFO B (R505, D55). -/
def overflowEffects (n : Fin 4) (s : State) : State :=
  let t := s.timer n
  let s := s.setTimer n { t with counter := t.reload, overflows := t.overflows + 1 }
  let s := if t.irqEn then s.setFlags (timerFlag n) else s
  let s := if drains n s.fifoA then fifoDrain .a s else s
  if drains n s.fifoB then fifoDrain .b s else s

/-- The cascade step of R505: if timer n + 1 exists, runs and cascades, `inc` is performed on it. -/
def cascadeTo (inc : Fin 4 → State → State) (n : Fin 4) (s : State) : State :=
  if h : n.val < 3 then
    let m : Fin 4 := ⟨n.val + 1, by omega⟩
    if (s.timer m).enable && (s.timer m).cascade then inc m s else s
  else s

/-- TIMER_INC with at most `fuel - 1` cascades behind it (R504, R505). -/
def timerIncUpTo : Nat → Fin 4 → State → State
  | 0, _, s => s
  | fuel + 1, n, s =>
    if (s.timer n).counter = 0xFFFF then cascadeTo (timerIncUpTo fuel) n (overflowEffects n s)
    else s.setTimer n { s.timer n with counter := (s.timer n).counter + 1 }

/-- TIMER_INC(n) (R504). There are four timers, so no chain of cascades is longer than four. -/
def timerInc (n : Fin 4) (s : State) : State := timerIncUpTo 4 n s

/-- TIMER_OVERFLOW(n) (R505). -/
def timerOverflow (n : Fin 4) (s : State) : State := cascadeTo timerInc n (overflowEffects n s)

/-- Timer n counts prescaled ticks (R503, D18): it runs, and it does not cascade or is timer 0. -/
def countsTicks (n : Fin 4) (t : Timer) : Bool := t.enable && (n.val == 0 || !t.cascade)

/-- One round of TIMER_TICK's loop (R503, D54). -/
def timerTickOne (n : Fin 4) (s : State) : State :=
  let t := s.timer n
  if countsTicks n t then
    if divisor t.prescaler ≤ t.preAcc.toNat + 1 then timerInc n (s.setTimer n { t with preAcc := 0 })
    else s.setTimer n { t with preAcc := t.preAcc + 1 }
  else s

/-- TIMER_TICK: timers 0, 1, 2, 3 in that order (R503). -/
def timerTick (s : State) : State := timerTickOne 3 (timerTickOne 2 (timerTickOne 1 (timerTickOne 0 s)))

/-! ## Meanings -/

/-- REG_WRITE TMnCNT_L (R501). -/
def execRegWriteTmcntL (n : Fin 4) (be : BitVec 2) (data : Half) (s : State) : Result :=
  .next (writeTmcntL n be data s)

/-- REG_READ TMnCNT_L: the live counter (R501). -/
def execRegReadTmcntL (n : Fin 4) (s : State) : Result := .next (s.readResult (s.timer n).counter)

/-- REG_WRITE TMnCNT_H (R502). -/
def execRegWriteTmcntH (n : Fin 4) (be : BitVec 2) (data : Half) (s : State) : Result :=
  .next (writeTmcntH n be data s)

/-- REG_READ TMnCNT_H (R502). -/
def execRegReadTmcntH (n : Fin 4) (s : State) : Result := .next (s.readResult (s.timer n).packControl)

/-- EVT TIMER_TICK (R503). -/
def execEvtTimerTick (s : State) : Result := .next (timerTick s)

/-- EVT TIMER_INC(n) (R504). -/
def execEvtTimerInc (n : Fin 4) (s : State) : Result := .next (timerInc n s)

/-- EVT TIMER_OVERFLOW(n) (R505). -/
def execEvtTimerOverflow (n : Fin 4) (s : State) : Result := .next (timerOverflow n s)

end Sys2Proof.Machine
end

