-- ==== Sys2Proof/Machine/Registers.lean ====
section
/-! DEFINITION. The register space as a whole: the register map with its masks (R211), reads and writes by
offset (R205-R207), and the unmapped rows. -/

namespace Sys2Proof.Machine

/-- WM, the stored-bit mask of R211; 0 where a write stores nothing in the register's name (FIFO data, IF,
HALTCNT). -/
def writeMask : Reg → Half
  | .sound1cntL => 0x007F
  | .sound1cntH => 0xFFC0
  | .sound1cntX => 0x47FF
  | .sound2cntL => 0xFFC0
  | .sound2cntH => 0x47FF
  | .sound3cntL => 0x00E0
  | .sound3cntH => 0xE000
  | .sound3cntX => 0x47FF
  | .sound4cntL => 0xFF00
  | .sound4cntH => 0x40FF
  | .soundcntL => 0xFF77
  | .soundcntH => 0x770F
  | .soundcntX => 0x0080
  | .soundbias => 0xC3FE
  | .waveRam _ => 0xFFFF
  | .fifoA _ => 0
  | .fifoB _ => 0
  | .tmcntL _ => 0xFFFF
  | .tmcntH _ => 0x00C7
  | .ie => 0x3FFF
  | .iflags => 0
  | .ime => 0x0001
  | .haltcnt => 0

/-- RM, the mask of the stored bits a read shows (R206, R211); TMnCNT_L and IF show only live bits. -/
def readMask : Reg → Half
  | .sound1cntX | .sound2cntH | .sound3cntX => 0x4000
  | .tmcntL _ => 0
  | r => writeMask r

/-- `stored value` of R205: the WM bits a register holds. -/
def storedValue (r : Reg) (s : State) : Half :=
  match r with
  | .sound1cntL => s.sweep.pack
  | .sound1cntH => s.ch1.dutyEnv
  | .sound1cntX => packControl s.ch1.lenEn s.ch1.freq
  | .sound2cntL => s.ch2.dutyEnv
  | .sound2cntH => packControl s.ch2.lenEn s.ch2.freq
  | .sound3cntL => s.wave.packSelect
  | .sound3cntH => s.wave.packVolume
  | .sound3cntX => packControl s.wave.lenEn s.wave.freq
  | .sound4cntL => s.noise.packEnv
  | .sound4cntH => s.noise.packControl
  | .soundcntL => s.apu.packMix
  | .soundcntH => soundControl s.apu.psgRatio s.fifoA s.fifoB
  | .soundcntX => soundStatus s.apu.masterEn false false false false
  | .soundbias => s.apu.packBias
  | .waveRam k => s.wave.readRam k
  | .fifoA _ => 0
  | .fifoB _ => 0
  | .tmcntL n => (s.timer n).reload
  | .tmcntH n => (s.timer n).packControl
  | .ie => s.irq.ie
  | .iflags => 0
  | .ime => readIme s
  | .haltcnt => 0

/-- `dynamic(R)` of R206: the live bits a read shows. -/
def dynamicBits (r : Reg) (s : State) : Half :=
  match r with
  | .soundcntX => soundStatus false s.ch1.enabled s.ch2.enabled s.wave.enabled s.noise.enabled
  | .tmcntL n => (s.timer n).counter
  | .iflags => s.irq.flags
  | _ => 0

/-- RegRead of a mapped register: `(stored value & RM) | dynamic` (R206). -/
def readValue (r : Reg) (s : State) : Half := (storedValue r s &&& readMask r) ||| dynamicBits r s

/-- RegRead of an offset: an unmapped halfword reads 0x0000 (R206, R207). -/
def offsetRead (off : BitVec 12) (s : State) : Half :=
  match regAt (off.extractLsb' 1 11) with
  | some r => readValue r s
  | none => 0

/-- RegWrite of a mapped register: the write half of its rule (R205). -/
def writeReg (be : BitVec 2) (data : Half) (r : Reg) (s : State) : State :=
  match r with
  | .sound1cntL => writeSound1cntL be data s
  | .sound1cntH => writeSound1cntH be data s
  | .sound1cntX => writeSound1cntX be data s
  | .sound2cntL => writeSound2cntL be data s
  | .sound2cntH => writeSound2cntH be data s
  | .sound3cntL => writeSound3cntL be data s
  | .sound3cntH => writeSound3cntH be data s
  | .sound3cntX => writeSound3cntX be data s
  | .sound4cntL => writeSound4cntL be data s
  | .sound4cntH => writeSound4cntH be data s
  | .soundcntL => writeSoundcntL be data s
  | .soundcntH => writeSoundcntH be data s
  | .soundcntX => writeSoundcntX be data s
  | .soundbias => writeSoundbias be data s
  | .waveRam k => writeWaveRam k be data s
  | .fifoA _ => writeFifoA be data s
  | .fifoB _ => writeFifoB be data s
  | .tmcntL n => writeTmcntL n be data s
  | .tmcntH n => writeTmcntH n be data s
  | .ie => writeIe be data s
  | .iflags => writeIf be data s
  | .ime => writeIme be data s
  | .haltcnt => writeHaltcnt be data s

/-- REG_WRITE of an unmapped offset: ignored, with no other effect (R207). -/
def execRegWriteUnmapped (_haddr : BitVec 11) (_be : BitVec 2) (_data : Half) (s : State) : Result := .next s

/-- REG_READ of an unmapped offset: 0x0000 (R207). -/
def execRegReadUnmapped (_haddr : BitVec 11) (s : State) : Result := .next (s.readResult 0)

end Sys2Proof.Machine
end

