-- ==== Sys2Proof/Machine/Agents.lean ====
section
/-! DEFINITION. What happens inside one call of the CPU core, the DMA engine or the video stepper (R940-R943): the
words they issue reach the decoder on their port and act as they do anywhere else; a bus access is split by the bus
adapter (R203); and the sink's words fall between any two of these transactions, as the call's list says (R220, R222;
log 22). -/

namespace Sys2Proof.Machine

/-- The effect of an instruction of the BUS, CPU and IRQSRC ports, the three an agent of the emulation thread
issues on (R940, R941, R943), and of the SINK port, whose words may fall between those (R222). The decoder lets no
other row through on these ports (R305 check 3). -/
def agentExec (i : Instr) (s : State) : State :=
  match i with
  | .regWriteSound1cntL be data => writeReg be data .sound1cntL s
  | .regReadSound1cntL => s.readResult (readValue .sound1cntL s)
  | .regWriteSound1cntH be data => writeReg be data .sound1cntH s
  | .regReadSound1cntH => s.readResult (readValue .sound1cntH s)
  | .regWriteSound1cntX be data => writeReg be data .sound1cntX s
  | .regReadSound1cntX => s.readResult (readValue .sound1cntX s)
  | .regWriteSound2cntL be data => writeReg be data .sound2cntL s
  | .regReadSound2cntL => s.readResult (readValue .sound2cntL s)
  | .regWriteSound2cntH be data => writeReg be data .sound2cntH s
  | .regReadSound2cntH => s.readResult (readValue .sound2cntH s)
  | .regWriteSound3cntL be data => writeReg be data .sound3cntL s
  | .regReadSound3cntL => s.readResult (readValue .sound3cntL s)
  | .regWriteSound3cntH be data => writeReg be data .sound3cntH s
  | .regReadSound3cntH => s.readResult (readValue .sound3cntH s)
  | .regWriteSound3cntX be data => writeReg be data .sound3cntX s
  | .regReadSound3cntX => s.readResult (readValue .sound3cntX s)
  | .regWriteSound4cntL be data => writeReg be data .sound4cntL s
  | .regReadSound4cntL => s.readResult (readValue .sound4cntL s)
  | .regWriteSound4cntH be data => writeReg be data .sound4cntH s
  | .regReadSound4cntH => s.readResult (readValue .sound4cntH s)
  | .regWriteSoundcntL be data => writeReg be data .soundcntL s
  | .regReadSoundcntL => s.readResult (readValue .soundcntL s)
  | .regWriteSoundcntH be data => writeReg be data .soundcntH s
  | .regReadSoundcntH => s.readResult (readValue .soundcntH s)
  | .regWriteSoundcntX be data => writeReg be data .soundcntX s
  | .regReadSoundcntX => s.readResult (readValue .soundcntX s)
  | .regWriteSoundbias be data => writeReg be data .soundbias s
  | .regReadSoundbias => s.readResult (readValue .soundbias s)
  | .regWriteWaveRam k be data => writeReg be data (.waveRam k) s
  | .regReadWaveRam k => s.readResult (readValue (.waveRam k) s)
  | .regWriteFifoA h be data => writeReg be data (.fifoA h) s
  | .regReadFifoA h => s.readResult (readValue (.fifoA h) s)
  | .regWriteFifoB h be data => writeReg be data (.fifoB h) s
  | .regReadFifoB h => s.readResult (readValue (.fifoB h) s)
  | .regWriteTmcntL n be data => writeReg be data (.tmcntL n) s
  | .regReadTmcntL n => s.readResult (readValue (.tmcntL n) s)
  | .regWriteTmcntH n be data => writeReg be data (.tmcntH n) s
  | .regReadTmcntH n => s.readResult (readValue (.tmcntH n) s)
  | .regWriteIe be data => writeReg be data .ie s
  | .regReadIe => s.readResult (readValue .ie s)
  | .regWriteIf be data => writeReg be data .iflags s
  | .regReadIf => s.readResult (readValue .iflags s)
  | .regWriteIme be data => writeReg be data .ime s
  | .regReadIme => s.readResult (readValue .ime s)
  | .regWriteHaltcnt be data => writeReg be data .haltcnt s
  | .regReadHaltcnt => s.readResult (readValue .haltcnt s)
  | .regWriteUnmapped _ _ _ => s
  | .regReadUnmapped _ => s.readResult 0
  | .cpuHalt => cpuHalt s
  | .cpuStop => cpuStop s
  | .cpuIntrwait mask => cpuIntrwait mask s
  | .irqRequest bits => irqRequest bits s
  | .ringPop pad count => ringPop pad count s
  | .reset | .runFrame | .setSpeed _ => s
  | .evtPass | .evtTick | .evtTimerTick | .evtTimerInc _ | .evtTimerOverflow _ | .evtFifoDrain _ => s
  | .evtApuStep | .evtFsClock | .evtLengthClock | .evtSweepClock | .evtEnvelopeClock => s
  | .evtMix | .evtResample | .evtRingPush => s

/-- A word issued on a port inside an oracle call: decoded, then performed or refused (R305, R900). -/
def agentWord (p : Port) (w : Word) (s : State) : State :=
  match decode p w with
  | .instr i => agentExec i s
  | .refused e => s.refuse p e w

/-- Words on a port, in order. -/
def agentWords (p : Port) (ws : List Word) (s : State) : State := ws.foldl (fun s w => agentWord p w s) s

/-- A bus access: its transactions in ascending offset order, then a read's assembled value (R203). A 32-bit access is
two transactions (R208), between which the sink may present words (R222). -/
def performAccess (a : BusAccess) (between : List Word) (s : State) : State :=
  let words := a.split.map Transaction.word
  let s' := agentWords .bus (words.drop 1) (agentWords .sink between (agentWords .bus (words.take 1) s))
  let halves := a.split.filterMap (fun t => match t with | .read off => some (offsetRead off s) | .write _ _ _ => none)
  match a.result halves with
  | some v => s'.emit (.accessData v)
  | none => s'

/-- One thing that happens inside an oracle call. -/
def performIssue (s : State) : Issue → State
  | .bus w => agentWord .bus w s
  | .access a between => performAccess a between s
  | .cpu w => agentWord .cpu w s
  | .irqsrc w => agentWord .irqsrc w s
  | .sink w => agentWord .sink w s

/-- The video stepper's issues among those of the other agents. -/
def VideoIssue.toIssue : VideoIssue → Issue
  | .irqsrc w => .irqsrc w
  | .sink w => .sink w

/-- Everything that happens inside an oracle call, in order (R220, R222, R940). -/
def performIssues (is : List Issue) (s : State) : State := is.foldl performIssue s

/-- The next entry of a list of answers, and the list after it; the rest answer when it is used up (log 2). -/
def nextAnswer {α : Type} (answers : List α) (rest : α) : α × List α :=
  match answers with
  | [] => (rest, [])
  | a :: as => (a, as)

/-- CPU.Step: its cost, after the words it issued have acted (R940). -/
def cpuStep (s : State) : Nat × State :=
  let a := nextAnswer s.env.cpu s.env.cpuRest
  (a.1.cost, performIssues a.1.issues { s with env := { s.env with cpu := a.2 } })

/-- DMA.HasPendingTransfer and, if it answers true, DMA.RunOne, at most one unit: its cost, 0 if there was none
(R420 step 4a, R941). -/
def dmaStep (s : State) : Nat × State :=
  let a := nextAnswer s.env.dma s.env.dmaRest
  let s := { s with env := { s.env with dma := a.2 } }
  match a.1 with
  | none => (0, s)
  | some c => (c.cost, performIssues c.issues s)

/-- Video.Tick: frame_end, after what happens inside it has acted (R942). -/
def videoTick (s : State) : Bool × State :=
  let a := nextAnswer s.env.video s.env.videoRest
  (a.1.frameEnd,
    performIssues (a.1.issues.map VideoIssue.toIssue) { s with env := { s.env with video := a.2 } })

end Sys2Proof.Machine
end

