-- ==== Sys2Proof/Machine/Scheduler.lean ====
section
/-! DEFINITION. The host commands RESET, RUN_FRAME and SET_SPEED (R401, R402, R1001), the pass (R420) and the
tick (R430, R431). -/

namespace Sys2Proof.Machine

/-! ## Host commands -/

/-- A host command that is refused while a frame is in progress (R901, D52). -/
def betweenFrames (i : Instr) (s : State) (op : State → State) : State :=
  if s.sched.inFrame then s.refuse .host .reentrant (encode i) else op s

/-- RESET's effect: every field of R102-R112 takes its reset value; the ring, its counters and the faults are not
changed (R1001), nor is anything that is the model's own (log 15). -/
def resetFields (s : State) : State :=
  { s with
    sched := Sched.reset
    irq := Irq.reset
    timers := Vector.replicate 4 Timer.reset
    apu := Apu.reset
    ch1 := Square.reset
    sweep := Sweep.reset
    ch2 := Square.reset
    wave := Wave.reset
    noise := Noise.reset
    fifoA := Fifo.reset
    fifoB := Fifo.reset
    resampler := Resampler.reset }

/-- RESET (R1001). -/
def resetBlock (s : State) : State := betweenFrames .reset s resetFields

/-- The frame budget, read once when the frame starts (R102, R401). -/
def frameBudget (s : State) : Nat := Config.frameCycles * s.sched.speed.toNat

/-- RUN_FRAME up to its loops: the frame begins, and the sequencer performs the loops as transitions of their own
until the budget is used up (R401, R222; log 17). -/
def beginFrame (s : State) : State :=
  { s with
    sched := { s.sched with inFrame := true, didRender := false, i := 0 }
    seq := { s.seq with phase := .carry, budget := frameBudget s } }

/-- RUN_FRAME (R401). -/
def runFrame (s : State) : State := betweenFrames .runFrame s beginFrame

/-- SET_SPEED(m): re-entry is checked before the configuration (R402, R901). -/
def setSpeed (m : Half) (s : State) : State :=
  betweenFrames (.setSpeed m) s fun s =>
    if m = 0 then s.refuse .host .badConfig (encode (.setSpeed m)) else { s with sched := { s.sched with speed := m } }

/-! ## PASS -/

/-- PASS's result (n, fan), kept for the sequencer (R420; log 17). -/
def State.passResult (s : State) (n : Nat) (fan : Bool) : State := { s with seq := { s.seq with n := n, fan := fan } }

/-- Steps 4a and 4b of a pass: at most one DMA unit, then one CPU instruction if the CPU is Running (R420). -/
def passStep4 (s : State) : State :=
  let d := dmaStep s
  if d.2.sched.halt = .running then
    let c := cpuStep d.2
    c.2.passResult (max 1 (d.1 + c.1)) true
  else d.2.passResult (max 1 d.1) true

/-- PASS (R420). The sink's words fall between the transactions of its calls as the calls' lists say (R222, log 22). -/
def pass (s : State) : State :=
  let pend := pending s.irq
  let s := (s.wake pend).signal pend
  if s.sched.halt = .stopped then s.passResult 1 false else passStep4 s

/-! ## TICK -/

/-- The video part of a tick: Video.Render is called only for a frame end in the final sub-frame (R430, R431, D44). -/
def tickVideo (s : State) : State :=
  let v := videoTick s
  if v.1 && v.2.sched.i / Config.frameCycles + 1 == v.2.sched.speed.toNat then
    { v.2 with sched := { v.2.sched with didRender := true } }.emit .render
  else v.2

/-- The channel part of a tick: an APU step on every 4th tick while master_en = 1 (R430, D21). -/
def tickApu (s : State) : State :=
  if s.apu.phase = 3 then
    let s := { s with apu := { s.apu with phase := 0 } }
    if s.apu.masterEn then apuStep s else s
  else { s with apu := { s.apu with phase := s.apu.phase + 1 } }

/-- The audio part of a tick: a MIX when audio_wait is 0 (R430, D35). -/
def tickAudio (s : State) : State :=
  if s.apu.audioWait = 0 then
    let s := mix s
    { s with apu := { s.apu with audioWait := 511 } }
  else { s with apu := { s.apu with audioWait := s.apu.audioWait - 1 } }

/-- TICK of the tick index st.i: timers, video, channel step, sample, in that order (R430, D45). The
sink's words fall between TIMER_TICK, the requests of Video.Tick and what follows as its list says (R222, log 22), and
between the RING_PUSHes of its MIX, which are transitions of their own (log 7). -/
def tick (s : State) : State := tickAudio (tickApu (tickVideo (timerTick s)))

/-! ## Meanings -/

/-- RESET (R1001). -/
def execReset (s : State) : Result := .next (resetBlock s)

/-- RUN_FRAME (R401). -/
def execRunFrame (s : State) : Result := .next (runFrame s)

/-- SET_SPEED (R402). -/
def execSetSpeed (m : Half) (s : State) : Result := .next (setSpeed m s)

/-- EVT PASS (R420). -/
def execEvtPass (s : State) : Result := .next (pass s)

/-- EVT TICK (R430). -/
def execEvtTick (s : State) : Result := .next (tick s)

end Sys2Proof.Machine
end

