-- ==== Sys2Proof/Machine/Dispatch.lean ====
section
/-! DEFINITION. One arm per constructor of Instr. -/

namespace Sys2Proof.Machine

def exec (i : Instr) (s : State) : Host.Outcome State Fault Refusal :=
  match i with
  | .regWriteSound1cntL be data => Sys2Proof.Machine.execRegWriteSound1cntL be data s
  | .regReadSound1cntL => Sys2Proof.Machine.execRegReadSound1cntL s
  | .regWriteSound1cntH be data => Sys2Proof.Machine.execRegWriteSound1cntH be data s
  | .regReadSound1cntH => Sys2Proof.Machine.execRegReadSound1cntH s
  | .regWriteSound1cntX be data => Sys2Proof.Machine.execRegWriteSound1cntX be data s
  | .regReadSound1cntX => Sys2Proof.Machine.execRegReadSound1cntX s
  | .regWriteSound2cntL be data => Sys2Proof.Machine.execRegWriteSound2cntL be data s
  | .regReadSound2cntL => Sys2Proof.Machine.execRegReadSound2cntL s
  | .regWriteSound2cntH be data => Sys2Proof.Machine.execRegWriteSound2cntH be data s
  | .regReadSound2cntH => Sys2Proof.Machine.execRegReadSound2cntH s
  | .regWriteSound3cntL be data => Sys2Proof.Machine.execRegWriteSound3cntL be data s
  | .regReadSound3cntL => Sys2Proof.Machine.execRegReadSound3cntL s
  | .regWriteSound3cntH be data => Sys2Proof.Machine.execRegWriteSound3cntH be data s
  | .regReadSound3cntH => Sys2Proof.Machine.execRegReadSound3cntH s
  | .regWriteSound3cntX be data => Sys2Proof.Machine.execRegWriteSound3cntX be data s
  | .regReadSound3cntX => Sys2Proof.Machine.execRegReadSound3cntX s
  | .regWriteSound4cntL be data => Sys2Proof.Machine.execRegWriteSound4cntL be data s
  | .regReadSound4cntL => Sys2Proof.Machine.execRegReadSound4cntL s
  | .regWriteSound4cntH be data => Sys2Proof.Machine.execRegWriteSound4cntH be data s
  | .regReadSound4cntH => Sys2Proof.Machine.execRegReadSound4cntH s
  | .regWriteSoundcntL be data => Sys2Proof.Machine.execRegWriteSoundcntL be data s
  | .regReadSoundcntL => Sys2Proof.Machine.execRegReadSoundcntL s
  | .regWriteSoundcntH be data => Sys2Proof.Machine.execRegWriteSoundcntH be data s
  | .regReadSoundcntH => Sys2Proof.Machine.execRegReadSoundcntH s
  | .regWriteSoundcntX be data => Sys2Proof.Machine.execRegWriteSoundcntX be data s
  | .regReadSoundcntX => Sys2Proof.Machine.execRegReadSoundcntX s
  | .regWriteSoundbias be data => Sys2Proof.Machine.execRegWriteSoundbias be data s
  | .regReadSoundbias => Sys2Proof.Machine.execRegReadSoundbias s
  | .regWriteWaveRam k be data => Sys2Proof.Machine.execRegWriteWaveRam k be data s
  | .regReadWaveRam k => Sys2Proof.Machine.execRegReadWaveRam k s
  | .regWriteFifoA h be data => Sys2Proof.Machine.execRegWriteFifoA h be data s
  | .regReadFifoA h => Sys2Proof.Machine.execRegReadFifoA h s
  | .regWriteFifoB h be data => Sys2Proof.Machine.execRegWriteFifoB h be data s
  | .regReadFifoB h => Sys2Proof.Machine.execRegReadFifoB h s
  | .regWriteTmcntL n be data => Sys2Proof.Machine.execRegWriteTmcntL n be data s
  | .regReadTmcntL n => Sys2Proof.Machine.execRegReadTmcntL n s
  | .regWriteTmcntH n be data => Sys2Proof.Machine.execRegWriteTmcntH n be data s
  | .regReadTmcntH n => Sys2Proof.Machine.execRegReadTmcntH n s
  | .regWriteIe be data => Sys2Proof.Machine.execRegWriteIe be data s
  | .regReadIe => Sys2Proof.Machine.execRegReadIe s
  | .regWriteIf be data => Sys2Proof.Machine.execRegWriteIf be data s
  | .regReadIf => Sys2Proof.Machine.execRegReadIf s
  | .regWriteIme be data => Sys2Proof.Machine.execRegWriteIme be data s
  | .regReadIme => Sys2Proof.Machine.execRegReadIme s
  | .regWriteHaltcnt be data => Sys2Proof.Machine.execRegWriteHaltcnt be data s
  | .regReadHaltcnt => Sys2Proof.Machine.execRegReadHaltcnt s
  | .regWriteUnmapped haddr be data => Sys2Proof.Machine.execRegWriteUnmapped haddr be data s
  | .regReadUnmapped haddr => Sys2Proof.Machine.execRegReadUnmapped haddr s
  | .reset => Sys2Proof.Machine.execReset s
  | .runFrame => Sys2Proof.Machine.execRunFrame s
  | .setSpeed m => Sys2Proof.Machine.execSetSpeed m s
  | .cpuHalt => Sys2Proof.Machine.execCpuHalt s
  | .cpuStop => Sys2Proof.Machine.execCpuStop s
  | .cpuIntrwait mask => Sys2Proof.Machine.execCpuIntrwait mask s
  | .irqRequest bits => Sys2Proof.Machine.execIrqRequest bits s
  | .ringPop pad count => Sys2Proof.Machine.execRingPop pad count s
  | .evtPass => Sys2Proof.Machine.execEvtPass s
  | .evtTick => Sys2Proof.Machine.execEvtTick s
  | .evtTimerTick => Sys2Proof.Machine.execEvtTimerTick s
  | .evtTimerInc n => Sys2Proof.Machine.execEvtTimerInc n s
  | .evtTimerOverflow n => Sys2Proof.Machine.execEvtTimerOverflow n s
  | .evtFifoDrain f => Sys2Proof.Machine.execEvtFifoDrain f s
  | .evtApuStep => Sys2Proof.Machine.execEvtApuStep s
  | .evtFsClock => Sys2Proof.Machine.execEvtFsClock s
  | .evtLengthClock => Sys2Proof.Machine.execEvtLengthClock s
  | .evtSweepClock => Sys2Proof.Machine.execEvtSweepClock s
  | .evtEnvelopeClock => Sys2Proof.Machine.execEvtEnvelopeClock s
  | .evtMix => Sys2Proof.Machine.execEvtMix s
  | .evtResample => Sys2Proof.Machine.execEvtResample s
  | .evtRingPush => Sys2Proof.Machine.execEvtRingPush s

end Sys2Proof.Machine
end

