-- ==== Sys2Proof/Machine/Sequencer.lean ====
section
/-! DEFINITION. How a word comes to be performed: presented on a port by an agent, or generated by the block's own
sequencer (R300, R303). The sequencer performs the loops of RUN_FRAME (R401) one transition at a time, so that
another agent may move between any two of them (R221, R222). The sink's moves inside a PASS or a TICK, between the
transactions of an oracle's call, stand in that call's list (Issue.sink, VideoIssue.sink; log 22). -/

namespace Sys2Proof.Machine

/-! ## Presenting a word -/

/-- A word on a port: the decoder's instruction is performed, or its refusal goes back to the port (R305, R900). -/
def present (p : Port) (w : Word) (s : State) : Result :=
  match decode p w with
  | .instr i => exec i s
  | .refused e => .next (s.refuse p e w)

/-- A word from outside. While a push holds, and once the block is torn down, only the sink still acts: every other
agent's turn passes without effect (R823, R935, R1031; R114, R827; logs 8, 12, 14). Between which transitions a word
may come otherwise is the model's choice (logs 12, 22). -/
def presentExternal (p : Port) (w : Word) (s : State) : Result :=
  if (s.tornDown || s.held) && p != .sink then .next s else present p w s

/-! ## The loops of RUN_FRAME (R401) -/

/-- The sequencer generates an event that has no data operand (R303). -/
def State.generate (s : State) (i : Instr) (phase : SeqPhase) : State :=
  { s with seq := { s.seq with phase := phase }, events := [{ word := encode i, arg := .none }] }

/-- `st.i <- st.i + 1` (R101). -/
def State.advanceTick (s : State) : State := { s with sched := { s.sched with i := s.sched.i + 1 } }

/-- The sequencer moves on in the pseudocode of R401. -/
def State.goto (s : State) (phase : SeqPhase) : State := { s with seq := { s.seq with phase := phase } }

/-- `st.in_frame <- 0; return st.did_render` (R401). -/
def State.endFrame (s : State) : State :=
  ({ s with sched := { s.sched with inFrame := false } }.goto .idle).emit (.frameDone s.sched.didRender)

/-- One transition of RUN_FRAME's loops, when no event waits (R401). -/
def sequence (s : State) : State :=
  match s.seq.phase with
  | .idle => s
  | .carry =>
    if 0 < s.sched.carry ∧ s.sched.i < s.seq.budget then s.generate .evtTick .carryTick else s.goto .pass
  | .carryTick => ({ s with sched := { s.sched with carry := s.sched.carry - 1 } }.advanceTick).goto .carry
  | .pass => if s.sched.i < s.seq.budget then s.generate .evtPass .passRun else s.endFrame
  | .passRun => { s with seq := { s.seq with k := 0 } }.goto .ticks
  | .ticks =>
    if s.seq.k < s.seq.n ∧ s.sched.i < s.seq.budget then
      if s.seq.fan then s.generate .evtTick .tickRun
      else { s with seq := { s.seq with k := s.seq.k + 1 } }.advanceTick
    else
      { s with sched := { s.sched with carry := if s.seq.fan then s.seq.n - s.seq.k else 0 } }.goto .pass
  | .tickRun => ({ s with seq := { s.seq with k := s.seq.k + 1 } }.advanceTick).goto .ticks

/-- One transition of the emulation agent: the oldest waiting event, or else the sequencer's next one. It has no
step once the block is torn down (R827). -/
def emulate (s : State) : Result :=
  if s.tornDown then .next s
  else
    match s.events with
    | [] => .next (sequence s)
    | e :: es => present .internal e.word ({ s with events := es }.loadArg e.arg)

/-! ## Whose move it is (log 1) -/

/-- The host tears the block down (R114, R827). It can do so only between frames: "There is no cancellation of a
running frame" (R438, R945), and a push that holds keeps the host's thread (R823, R935). That a teardown at another
moment passes without effect is the model's choice (log 14). -/
def teardown (s : State) : State := if s.sched.inFrame || s.held then s else { s with tornDown := true }

/-- A move of the script. -/
def performMove (m : Move) (s : State) : Result :=
  match m with
  | .emulate => emulate s
  | .bus w => presentExternal .bus w s
  | .cpu w => presentExternal .cpu w s
  | .host w => presentExternal .host w s
  | .irqsrc w => presentExternal .irqsrc w s
  | .sink w => presentExternal .sink w s
  | .teardown => .next (teardown s)

/-- The next move of the script; the emulation agent moves once it is used up. -/
def nextMove (s : State) : Result :=
  match s.env.script with
  | [] => emulate s
  | m :: ms => performMove m { s with env := { s.env with script := ms } }

/-- Put a word where the next step takes it: EVT words among the waiting events, every other word as the next
move, on the port of its row (log 13). -/
def placeWord (w : Word) (s : State) : State :=
  let next (m : Move) : State := { s with env := { s.env with script := m :: s.env.script } }
  match tablePort w with
  | .bus => next (.bus w)
  | .cpu => next (.cpu w)
  | .host => next (.host w)
  | .irqsrc => next (.irqsrc w)
  | .sink => next (.sink w)
  | .internal => { next .emulate with events := { word := w, arg := .none } :: s.events }

end Sys2Proof.Machine
end

