-- ==== Sys2Proof/Machine/Step.lean ====
section
/-! DEFINITION. One transition of the machine. -/

namespace Sys2Proof.Machine

/-- A state with a recorded fault has no transition (R900 c); a state outside the invariants of R902 records
FAULT_INVARIANT (R115, R901; log 5); any other state makes the next move. -/
def step (s : State) : Host.Outcome State Fault Refusal :=
  if s.faults ≠ [] then .fault (.faulted s.faults)
  else if !s.invariants then .next (s.raiseFault .invariant)
  else nextMove s

/-- `s` with the word `w` where the next step takes its instruction (log 13). A command word has 32 bits (R300),
so bits from `nbits` on are 0. -/
def State.withFetchWord (s : State) (_nbits w : Nat) : State := placeWord (BitVec.ofNat 32 w) s

end Sys2Proof.Machine
end

