-- ==== Sys2Proof/Assembler.lean ====
section
/-! DEFINITION. The assembler text of R330 and R331: one line for each operation, register operands by name,
immediates in hexadecimal. EVT lines are for listings only. -/

namespace Sys2Proof

/-- A hexadecimal digit, in capitals as R332 writes them. -/
def hexDigit (n : Nat) : Char := ['0', '1', '2', '3', '4', '5', '6', '7', '8', '9', 'A', 'B', 'C', 'D', 'E', 'F'].getD n '?'

/-- The last `d` hexadecimal digits of a number. -/
def hexDigits : Nat → Nat → List Char
  | 0, _ => []
  | d + 1, n => hexDigits d (n / 16) ++ [hexDigit (n % 16)]

/-- `0x` and `d` hexadecimal digits. -/
def hexText (d n : Nat) : String := "0x" ++ String.ofList (hexDigits d n)

/-- The name of a register operand (R306, R330). -/
def regText : Reg → String
  | .sound1cntL => "SOUND1CNT_L"
  | .sound1cntH => "SOUND1CNT_H"
  | .sound1cntX => "SOUND1CNT_X"
  | .sound2cntL => "SOUND2CNT_L"
  | .sound2cntH => "SOUND2CNT_H"
  | .sound3cntL => "SOUND3CNT_L"
  | .sound3cntH => "SOUND3CNT_H"
  | .sound3cntX => "SOUND3CNT_X"
  | .sound4cntL => "SOUND4CNT_L"
  | .sound4cntH => "SOUND4CNT_H"
  | .soundcntL => "SOUNDCNT_L"
  | .soundcntH => "SOUNDCNT_H"
  | .soundcntX => "SOUNDCNT_X"
  | .soundbias => "SOUNDBIAS"
  | .waveRam k => "WAVE_RAM" ++ toString k.val
  | .fifoA h => if h = 0 then "FIFO_A" else "FIFO_A+2"
  | .fifoB h => if h = 0 then "FIFO_B" else "FIFO_B+2"
  | .tmcntL n => "TM" ++ toString n.val ++ "CNT_L"
  | .tmcntH n => "TM" ++ toString n.val ++ "CNT_H"
  | .ie => "IE"
  | .iflags => "IF"
  | .ime => "IME"
  | .haltcnt => "HALTCNT"

/-- The byte-lane operand of `regw`: `lo`, `hi`, `both` (R330); `none` is no BE of a word (R301). -/
def beText (be : BitVec 2) : String :=
  match be.toNat with
  | 0 => "none"
  | 1 => "lo"
  | 2 => "hi"
  | _ => "both"

/-- A `regw` line (R330). -/
def regwText (reg : String) (be : BitVec 2) (data : Half) : String :=
  "regw " ++ reg ++ ", " ++ beText be ++ ", " ++ hexText 4 data.toNat

/-- The line of an operation (R330). -/
def Instr.text : Instr → String
  | .regWriteSound1cntL be data => regwText (regText .sound1cntL) be data
  | .regReadSound1cntL => "regr " ++ regText .sound1cntL
  | .regWriteSound1cntH be data => regwText (regText .sound1cntH) be data
  | .regReadSound1cntH => "regr " ++ regText .sound1cntH
  | .regWriteSound1cntX be data => regwText (regText .sound1cntX) be data
  | .regReadSound1cntX => "regr " ++ regText .sound1cntX
  | .regWriteSound2cntL be data => regwText (regText .sound2cntL) be data
  | .regReadSound2cntL => "regr " ++ regText .sound2cntL
  | .regWriteSound2cntH be data => regwText (regText .sound2cntH) be data
  | .regReadSound2cntH => "regr " ++ regText .sound2cntH
  | .regWriteSound3cntL be data => regwText (regText .sound3cntL) be data
  | .regReadSound3cntL => "regr " ++ regText .sound3cntL
  | .regWriteSound3cntH be data => regwText (regText .sound3cntH) be data
  | .regReadSound3cntH => "regr " ++ regText .sound3cntH
  | .regWriteSound3cntX be data => regwText (regText .sound3cntX) be data
  | .regReadSound3cntX => "regr " ++ regText .sound3cntX
  | .regWriteSound4cntL be data => regwText (regText .sound4cntL) be data
  | .regReadSound4cntL => "regr " ++ regText .sound4cntL
  | .regWriteSound4cntH be data => regwText (regText .sound4cntH) be data
  | .regReadSound4cntH => "regr " ++ regText .sound4cntH
  | .regWriteSoundcntL be data => regwText (regText .soundcntL) be data
  | .regReadSoundcntL => "regr " ++ regText .soundcntL
  | .regWriteSoundcntH be data => regwText (regText .soundcntH) be data
  | .regReadSoundcntH => "regr " ++ regText .soundcntH
  | .regWriteSoundcntX be data => regwText (regText .soundcntX) be data
  | .regReadSoundcntX => "regr " ++ regText .soundcntX
  | .regWriteSoundbias be data => regwText (regText .soundbias) be data
  | .regReadSoundbias => "regr " ++ regText .soundbias
  | .regWriteWaveRam k be data => regwText (regText (.waveRam k)) be data
  | .regReadWaveRam k => "regr " ++ regText (.waveRam k)
  | .regWriteFifoA h be data => regwText (regText (.fifoA h)) be data
  | .regReadFifoA h => "regr " ++ regText (.fifoA h)
  | .regWriteFifoB h be data => regwText (regText (.fifoB h)) be data
  | .regReadFifoB h => "regr " ++ regText (.fifoB h)
  | .regWriteTmcntL n be data => regwText (regText (.tmcntL n)) be data
  | .regReadTmcntL n => "regr " ++ regText (.tmcntL n)
  | .regWriteTmcntH n be data => regwText (regText (.tmcntH n)) be data
  | .regReadTmcntH n => "regr " ++ regText (.tmcntH n)
  | .regWriteIe be data => regwText (regText .ie) be data
  | .regReadIe => "regr " ++ regText .ie
  | .regWriteIf be data => regwText (regText .iflags) be data
  | .regReadIf => "regr " ++ regText .iflags
  | .regWriteIme be data => regwText (regText .ime) be data
  | .regReadIme => "regr " ++ regText .ime
  | .regWriteHaltcnt be data => regwText (regText .haltcnt) be data
  | .regReadHaltcnt => "regr " ++ regText .haltcnt
  | .regWriteUnmapped haddr be data => regwText (hexText 3 (2 * haddr.toNat)) be data
  | .regReadUnmapped haddr => "regr " ++ hexText 3 (2 * haddr.toNat)
  | .reset => "reset"
  | .runFrame => "runframe"
  | .setSpeed m => "speed " ++ toString m.toNat
  | .cpuHalt => "halt"
  | .cpuStop => "stop"
  | .cpuIntrwait mask => "intrwait " ++ hexText 4 mask.toNat
  | .irqRequest bits => "irq " ++ hexText 4 bits.toNat
  | .ringPop pad count => "pop " ++ toString count.toNat ++ (if pad then ", pad" else "")
  | .evtPass => "%pass"
  | .evtTick => "%tick"
  | .evtTimerTick => "%timer_tick"
  | .evtTimerInc n => "%timer_inc " ++ toString n.val
  | .evtTimerOverflow n => "%timer_ovf " ++ toString n.val
  | .evtFifoDrain f => "%fifo_drain " ++ (match f with | .a => "A" | .b => "B")
  | .evtApuStep => "%apu_step"
  | .evtFsClock => "%fs_clock"
  | .evtLengthClock => "%length_clock"
  | .evtSweepClock => "%sweep_clock"
  | .evtEnvelopeClock => "%envelope_clock"
  | .evtMix => "%mix"
  | .evtResample => "%resample"
  | .evtRingPush => "%ring_push"

namespace Machine

/-- The line of a bus-access pseudo-instruction, whose words BusAccess.split gives (R331). -/
def BusAccess.text : BusAccess → String
  | .wr8 o v => "wr8 " ++ hexText 3 o.toNat ++ ", " ++ hexText 2 v.toNat
  | .rd8 o => "rd8 " ++ hexText 3 o.toNat
  | .wr16 o v => "wr16 " ++ hexText 3 o.toNat ++ ", " ++ hexText 4 v.toNat
  | .rd16 o => "rd16 " ++ hexText 3 o.toNat
  | .wr32 o v => "wr32 " ++ hexText 3 o.toNat ++ ", " ++ hexText 8 v.toNat
  | .rd32 o => "rd32 " ++ hexText 3 o.toNat

end Machine

end Sys2Proof
end

