-- ==== Sys2Proof/Safety.lean ====
section
/-! DEFINITION. What counts as a safe state: no fault recorded and the invariants of R902; and the further bounds
the state tables of 10_state.md give, which every transition keeps. -/

namespace Sys2Proof.Machine

/-- No fault is recorded and none is about to be (R115, R902). -/
def State.safe (s : State) : Bool := s.faults.isEmpty && s.invariants

/-- Wave RAM is in canonical form and lists only the 32 bytes that exist (R109, R200 b; log 20). -/
def Wave.ramOk (w : Wave) : Bool := Memory.wf w.ram && w.ram.all (fun c => decide (c.1 < 32))

/-- The countdown ranges and the resampler's phase that 10_state.md gives (R107, R109, R110, R112). -/
def State.rangesOk (s : State) : Bool :=
  decide (s.ch1.freqTimer ≤ 8192) && decide (s.ch2.freqTimer ≤ 8192) && decide (s.wave.freqTimer ≤ 4096) &&
  decide (s.noise.freqTimer ≤ 3670016) && s.wave.ramOk && decide (0 ≤ s.resampler.phase)

/-- Where RUN_FRAME stands agrees with the scheduler's registers (R101, R102, R401): in_frame says whether a frame is
in progress; the budget is the one of the speed then held; i never passes it; inside a loop body it has not reached it
yet; and the block is not torn down during a frame (the model's choice, log 14). -/
def State.frameOk (s : State) : Prop :=
  (s.sched.inFrame = true ↔ s.seq.phase ≠ .idle) ∧
  (s.seq.phase ≠ .idle → s.seq.budget = frameBudget s ∧ s.sched.i ≤ s.seq.budget) ∧
  (s.seq.phase = .carryTick ∨ s.seq.phase = .passRun ∨ s.seq.phase = .tickRun → s.sched.i < s.seq.budget) ∧
  (s.seq.phase = .carryTick → 0 < s.sched.carry) ∧
  (s.sched.inFrame = true → s.tornDown = false)

end Sys2Proof.Machine
end

