-- ==== Sys2Proof/WellFormed.lean ====
section
/-! DEFINITION. Which instructions are words of the opcode table: a REG_WRITE enables at least one lane
(R305 check 4), and an unmapped row's address is not a mapped register's (R305 check 6, R306). Every other
operand is typed to its field, so every value of it is encodable. -/

namespace Sys2Proof

/-- BE = 00 is illegal in a write (R301). -/
def Instr.beOk (be : BitVec 2) : Bool := be != 0#2

/-- The instruction is the meaning of some command word (R301, R306). -/
def Instr.wellFormed : Instr → Bool
  | .regWriteSound1cntL be _ => Instr.beOk be
  | .regReadSound1cntL => true
  | .regWriteSound1cntH be _ => Instr.beOk be
  | .regReadSound1cntH => true
  | .regWriteSound1cntX be _ => Instr.beOk be
  | .regReadSound1cntX => true
  | .regWriteSound2cntL be _ => Instr.beOk be
  | .regReadSound2cntL => true
  | .regWriteSound2cntH be _ => Instr.beOk be
  | .regReadSound2cntH => true
  | .regWriteSound3cntL be _ => Instr.beOk be
  | .regReadSound3cntL => true
  | .regWriteSound3cntH be _ => Instr.beOk be
  | .regReadSound3cntH => true
  | .regWriteSound3cntX be _ => Instr.beOk be
  | .regReadSound3cntX => true
  | .regWriteSound4cntL be _ => Instr.beOk be
  | .regReadSound4cntL => true
  | .regWriteSound4cntH be _ => Instr.beOk be
  | .regReadSound4cntH => true
  | .regWriteSoundcntL be _ => Instr.beOk be
  | .regReadSoundcntL => true
  | .regWriteSoundcntH be _ => Instr.beOk be
  | .regReadSoundcntH => true
  | .regWriteSoundcntX be _ => Instr.beOk be
  | .regReadSoundcntX => true
  | .regWriteSoundbias be _ => Instr.beOk be
  | .regReadSoundbias => true
  | .regWriteWaveRam _ be _ => Instr.beOk be
  | .regReadWaveRam _ => true
  | .regWriteFifoA _ be _ => Instr.beOk be
  | .regReadFifoA _ => true
  | .regWriteFifoB _ be _ => Instr.beOk be
  | .regReadFifoB _ => true
  | .regWriteTmcntL _ be _ => Instr.beOk be
  | .regReadTmcntL _ => true
  | .regWriteTmcntH _ be _ => Instr.beOk be
  | .regReadTmcntH _ => true
  | .regWriteIe be _ => Instr.beOk be
  | .regReadIe => true
  | .regWriteIf be _ => Instr.beOk be
  | .regReadIf => true
  | .regWriteIme be _ => Instr.beOk be
  | .regReadIme => true
  | .regWriteHaltcnt be _ => Instr.beOk be
  | .regReadHaltcnt => true
  | .regWriteUnmapped haddr be _ => Instr.beOk be && (regAt haddr).isNone
  | .regReadUnmapped haddr => (regAt haddr).isNone
  | .reset | .runFrame | .setSpeed _ | .cpuHalt | .cpuStop | .cpuIntrwait _ | .irqRequest _ | .ringPop _ _ => true
  | .evtPass | .evtTick | .evtTimerTick | .evtTimerInc _ | .evtTimerOverflow _ | .evtFifoDrain _ => true
  | .evtApuStep | .evtFsClock | .evtLengthClock | .evtSweepClock | .evtEnvelopeClock => true
  | .evtMix | .evtResample | .evtRingPush => true

end Sys2Proof
end

