-- ==== Sys2Proof/Certificates/Slice0/Obligations.lean ====
section
/-! DEFINITION. The statements for the provers. Each names the rule of spec/ it formalises. `Claims` holds the
spec's own formulas that several statements use, written from the spec's words and not from the model's
meanings. -/

namespace Sys2Proof.Claims

open Sys2Proof.Machine

/-- Bit n of a halfword lies in an enabled lane (R205). -/
def laneOn (be : BitVec 2) (n : Nat) : Bool := if n < 8 then be.getLsbD 0 else be.getLsbD 1

/-- The lane mask of R205, from BE. -/
def laneMask (be : BitVec 2) : Half :=
  (if be.getLsbD 0 then 0x00FF#16 else 0#16) ||| (if be.getLsbD 1 then 0xFF00#16 else 0#16)

/-- A trigger write: the high lane is enabled and bit 15 is 1 (R205, R603). -/
def triggers (be : BitVec 2) (data : Half) : Bool := be.getLsbD 1 && data.getLsbD 15

/-- The port of a word's row, from its class and code (R305 check 3, R308, R309). -/
def portOfRow (cls op : Nat) : Port :=
  if cls ≤ 1 then .bus
  else if cls = 3 then .internal
  else if op ≤ 2 then .host
  else if op ≤ 5 then .cpu
  else if op = 6 then .irqsrc
  else .sink

/-- The must-be-zero bits of a CMD or EVT word (R308, R309). -/
def zeroBits (cls op : Nat) : Word :=
  if cls = 2 then
    if op = 2 then 0x00FF0000 else if op = 5 ∨ op = 6 then 0x00FFC000 else if op = 7 then 0x00FE0000 else 0x00FFFFFF
  else if op = 3 ∨ op = 4 then 0x00FCFFFF else if op = 5 then 0x00FEFFFF else 0x00FFFFFF

/-- The first check of R305 that fails, on the raw bits of the word. -/
def failingCheck (p : Port) (w : Word) : Option ErrCode :=
  let cls := (w >>> 30).toNat
  let op := (w >>> 24).toNat % 64
  if cls = 3 ∧ p ≠ .internal then some .internalOnly
  else if (cls = 2 ∧ 8 ≤ op) ∨ (cls = 3 ∧ 14 ≤ op) then some .reservedOp
  else if portOfRow cls op ≠ p then some .wrongPort
  else if cls = 0 ∧ w &&& 0x30000000 = 0 then some .badBe
  else if cls = 0 ∧ w &&& 0x00010000 ≠ 0 then some .reservedBit
  else if cls = 1 ∧ w &&& 0x3001FFFF ≠ 0x30000000 then some .reservedBit
  else if 2 ≤ cls ∧ w &&& zeroBits cls op ≠ 0 then some .reservedBit
  else none

/-- The mnemonic of an instruction's row in spec/opcode_table.json. -/
def rowName : Instr → String
  | .regWriteSound1cntL _ _ => "REG_WRITE_SOUND1CNT_L"
  | .regReadSound1cntL => "REG_READ_SOUND1CNT_L"
  | .regWriteSound1cntH _ _ => "REG_WRITE_SOUND1CNT_H"
  | .regReadSound1cntH => "REG_READ_SOUND1CNT_H"
  | .regWriteSound1cntX _ _ => "REG_WRITE_SOUND1CNT_X"
  | .regReadSound1cntX => "REG_READ_SOUND1CNT_X"
  | .regWriteSound2cntL _ _ => "REG_WRITE_SOUND2CNT_L"
  | .regReadSound2cntL => "REG_READ_SOUND2CNT_L"
  | .regWriteSound2cntH _ _ => "REG_WRITE_SOUND2CNT_H"
  | .regReadSound2cntH => "REG_READ_SOUND2CNT_H"
  | .regWriteSound3cntL _ _ => "REG_WRITE_SOUND3CNT_L"
  | .regReadSound3cntL => "REG_READ_SOUND3CNT_L"
  | .regWriteSound3cntH _ _ => "REG_WRITE_SOUND3CNT_H"
  | .regReadSound3cntH => "REG_READ_SOUND3CNT_H"
  | .regWriteSound3cntX _ _ => "REG_WRITE_SOUND3CNT_X"
  | .regReadSound3cntX => "REG_READ_SOUND3CNT_X"
  | .regWriteSound4cntL _ _ => "REG_WRITE_SOUND4CNT_L"
  | .regReadSound4cntL => "REG_READ_SOUND4CNT_L"
  | .regWriteSound4cntH _ _ => "REG_WRITE_SOUND4CNT_H"
  | .regReadSound4cntH => "REG_READ_SOUND4CNT_H"
  | .regWriteSoundcntL _ _ => "REG_WRITE_SOUNDCNT_L"
  | .regReadSoundcntL => "REG_READ_SOUNDCNT_L"
  | .regWriteSoundcntH _ _ => "REG_WRITE_SOUNDCNT_H"
  | .regReadSoundcntH => "REG_READ_SOUNDCNT_H"
  | .regWriteSoundcntX _ _ => "REG_WRITE_SOUNDCNT_X"
  | .regReadSoundcntX => "REG_READ_SOUNDCNT_X"
  | .regWriteSoundbias _ _ => "REG_WRITE_SOUNDBIAS"
  | .regReadSoundbias => "REG_READ_SOUNDBIAS"
  | .regWriteWaveRam _ _ _ => "REG_WRITE_WAVE_RAM"
  | .regReadWaveRam _ => "REG_READ_WAVE_RAM"
  | .regWriteFifoA _ _ _ => "REG_WRITE_FIFO_A"
  | .regReadFifoA _ => "REG_READ_FIFO_A"
  | .regWriteFifoB _ _ _ => "REG_WRITE_FIFO_B"
  | .regReadFifoB _ => "REG_READ_FIFO_B"
  | .regWriteTmcntL _ _ _ => "REG_WRITE_TMCNT_L"
  | .regReadTmcntL _ => "REG_READ_TMCNT_L"
  | .regWriteTmcntH _ _ _ => "REG_WRITE_TMCNT_H"
  | .regReadTmcntH _ => "REG_READ_TMCNT_H"
  | .regWriteIe _ _ => "REG_WRITE_IE"
  | .regReadIe => "REG_READ_IE"
  | .regWriteIf _ _ => "REG_WRITE_IF"
  | .regReadIf => "REG_READ_IF"
  | .regWriteIme _ _ => "REG_WRITE_IME"
  | .regReadIme => "REG_READ_IME"
  | .regWriteHaltcnt _ _ => "REG_WRITE_HALTCNT"
  | .regReadHaltcnt => "REG_READ_HALTCNT"
  | .regWriteUnmapped _ _ _ => "REG_WRITE_unmapped"
  | .regReadUnmapped _ => "REG_READ_unmapped"
  | .reset => "RESET"
  | .runFrame => "RUN_FRAME"
  | .setSpeed _ => "SET_SPEED"
  | .cpuHalt => "CPU_HALT"
  | .cpuStop => "CPU_STOP"
  | .cpuIntrwait _ => "CPU_INTRWAIT"
  | .irqRequest _ => "IRQ_REQUEST"
  | .ringPop _ _ => "RING_POP"
  | .evtPass => "EVT_PASS"
  | .evtTick => "EVT_TICK"
  | .evtTimerTick => "EVT_TIMER_TICK"
  | .evtTimerInc _ => "EVT_TIMER_INC"
  | .evtTimerOverflow _ => "EVT_TIMER_OVERFLOW"
  | .evtFifoDrain _ => "EVT_FIFO_DRAIN"
  | .evtApuStep => "EVT_APU_STEP"
  | .evtFsClock => "EVT_FS_CLOCK"
  | .evtLengthClock => "EVT_LENGTH_CLOCK"
  | .evtSweepClock => "EVT_SWEEP_CLOCK"
  | .evtEnvelopeClock => "EVT_ENVELOPE_CLOCK"
  | .evtMix => "EVT_MIX"
  | .evtResample => "EVT_RESAMPLE"
  | .evtRingPush => "EVT_RING_PUSH"

/-! The rows of spec/opcode_table.json: mnemonic, match, mask. -/

def tableRows1 : List (String × Word × Word) :=
  [
    ("REG_WRITE_SOUND1CNT_L", 0x00600000, 0xcfff0000),
    ("REG_READ_SOUND1CNT_L", 0x70600000, 0xffffffff),
    ("REG_WRITE_SOUND1CNT_H", 0x00620000, 0xcfff0000),
    ("REG_READ_SOUND1CNT_H", 0x70620000, 0xffffffff),
    ("REG_WRITE_SOUND1CNT_X", 0x00640000, 0xcfff0000),
    ("REG_READ_SOUND1CNT_X", 0x70640000, 0xffffffff),
    ("REG_WRITE_SOUND2CNT_L", 0x00680000, 0xcfff0000),
    ("REG_READ_SOUND2CNT_L", 0x70680000, 0xffffffff),
    ("REG_WRITE_SOUND2CNT_H", 0x006c0000, 0xcfff0000),
    ("REG_READ_SOUND2CNT_H", 0x706c0000, 0xffffffff),
    ("REG_WRITE_SOUND3CNT_L", 0x00700000, 0xcfff0000),
    ("REG_READ_SOUND3CNT_L", 0x70700000, 0xffffffff),
    ("REG_WRITE_SOUND3CNT_H", 0x00720000, 0xcfff0000),
    ("REG_READ_SOUND3CNT_H", 0x70720000, 0xffffffff) ]

def tableRows2 : List (String × Word × Word) :=
  [
    ("REG_WRITE_SOUND3CNT_X", 0x00740000, 0xcfff0000),
    ("REG_READ_SOUND3CNT_X", 0x70740000, 0xffffffff),
    ("REG_WRITE_SOUND4CNT_L", 0x00780000, 0xcfff0000),
    ("REG_READ_SOUND4CNT_L", 0x70780000, 0xffffffff),
    ("REG_WRITE_SOUND4CNT_H", 0x007c0000, 0xcfff0000),
    ("REG_READ_SOUND4CNT_H", 0x707c0000, 0xffffffff),
    ("REG_WRITE_SOUNDCNT_L", 0x00800000, 0xcfff0000),
    ("REG_READ_SOUNDCNT_L", 0x70800000, 0xffffffff),
    ("REG_WRITE_SOUNDCNT_H", 0x00820000, 0xcfff0000),
    ("REG_READ_SOUNDCNT_H", 0x70820000, 0xffffffff),
    ("REG_WRITE_SOUNDCNT_X", 0x00840000, 0xcfff0000),
    ("REG_READ_SOUNDCNT_X", 0x70840000, 0xffffffff),
    ("REG_WRITE_SOUNDBIAS", 0x00880000, 0xcfff0000),
    ("REG_READ_SOUNDBIAS", 0x70880000, 0xffffffff) ]

def tableRows3 : List (String × Word × Word) :=
  [
    ("REG_WRITE_WAVE_RAM", 0x00900000, 0xcff10000),
    ("REG_READ_WAVE_RAM", 0x70900000, 0xfff1ffff),
    ("REG_WRITE_FIFO_A", 0x00a00000, 0xcffd0000),
    ("REG_READ_FIFO_A", 0x70a00000, 0xfffdffff),
    ("REG_WRITE_FIFO_B", 0x00a40000, 0xcffd0000),
    ("REG_READ_FIFO_B", 0x70a40000, 0xfffdffff),
    ("REG_WRITE_TMCNT_L", 0x01000000, 0xcff30000),
    ("REG_READ_TMCNT_L", 0x71000000, 0xfff3ffff),
    ("REG_WRITE_TMCNT_H", 0x01020000, 0xcff30000),
    ("REG_READ_TMCNT_H", 0x71020000, 0xfff3ffff),
    ("REG_WRITE_IE", 0x02000000, 0xcfff0000),
    ("REG_READ_IE", 0x72000000, 0xffffffff),
    ("REG_WRITE_IF", 0x02020000, 0xcfff0000),
    ("REG_READ_IF", 0x72020000, 0xffffffff) ]

def tableRows4 : List (String × Word × Word) :=
  [
    ("REG_WRITE_IME", 0x02080000, 0xcfff0000),
    ("REG_READ_IME", 0x72080000, 0xffffffff),
    ("REG_WRITE_HALTCNT", 0x03000000, 0xcfff0000),
    ("REG_READ_HALTCNT", 0x73000000, 0xffffffff),
    ("REG_WRITE_unmapped", 0x00000000, 0xc0010000),
    ("REG_READ_unmapped", 0x70000000, 0xf001ffff),
    ("RESET", 0x80000000, 0xffffffff),
    ("RUN_FRAME", 0x81000000, 0xffffffff),
    ("SET_SPEED", 0x82000000, 0xffff0000),
    ("CPU_HALT", 0x83000000, 0xffffffff),
    ("CPU_STOP", 0x84000000, 0xffffffff),
    ("CPU_INTRWAIT", 0x85000000, 0xffffc000),
    ("IRQ_REQUEST", 0x86000000, 0xffffc000),
    ("RING_POP", 0x87000000, 0xfffe0000) ]

def tableRows5 : List (String × Word × Word) :=
  [
    ("EVT_PASS", 0xc0000000, 0xffffffff),
    ("EVT_TICK", 0xc1000000, 0xffffffff),
    ("EVT_TIMER_TICK", 0xc2000000, 0xffffffff),
    ("EVT_TIMER_INC", 0xc3000000, 0xfffcffff),
    ("EVT_TIMER_OVERFLOW", 0xc4000000, 0xfffcffff),
    ("EVT_FIFO_DRAIN", 0xc5000000, 0xfffeffff),
    ("EVT_APU_STEP", 0xc6000000, 0xffffffff),
    ("EVT_FS_CLOCK", 0xc7000000, 0xffffffff),
    ("EVT_LENGTH_CLOCK", 0xc8000000, 0xffffffff),
    ("EVT_SWEEP_CLOCK", 0xc9000000, 0xffffffff),
    ("EVT_ENVELOPE_CLOCK", 0xca000000, 0xffffffff),
    ("EVT_MIX", 0xcb000000, 0xffffffff),
    ("EVT_RESAMPLE", 0xcc000000, 0xffffffff),
    ("EVT_RING_PUSH", 0xcd000000, 0xffffffff) ]

/-- All 70 rows. -/
def tableRows : List (String × Word × Word) :=
  tableRows1 ++ tableRows2 ++ tableRows3 ++ tableRows4 ++ tableRows5

/-- A register whose write stores bits in its own name: not FIFO data, IF or HALTCNT (R211). -/
def storing : Reg → Bool
  | .fifoA _ | .fifoB _ | .iflags | .haltcnt => false
  | _ => true

/-- The register map's WM (R211); 0 where a write stores nothing in the register's name. -/
def wm : Reg → Half
  | .sound1cntL => 0x007F
  | .sound1cntH | .sound2cntL => 0xFFC0
  | .sound1cntX | .sound2cntH | .sound3cntX => 0x47FF
  | .sound3cntL => 0x00E0
  | .sound3cntH => 0xE000
  | .sound4cntL => 0xFF00
  | .sound4cntH => 0x40FF
  | .soundcntL => 0xFF77
  | .soundcntH => 0x770F
  | .soundcntX => 0x0080
  | .soundbias => 0xC3FE
  | .waveRam _ | .tmcntL _ => 0xFFFF
  | .tmcntH _ => 0x00C7
  | .ie => 0x3FFF
  | .ime => 0x0001
  | .fifoA _ | .fifoB _ | .iflags | .haltcnt => 0

/-- The register map's RM for stored bits (R211): WM but for the write-only freq fields and the reload. -/
def rm : Reg → Half
  | .sound1cntX | .sound2cntH | .sound3cntX => 0x4000
  | .tmcntL _ => 0
  | r => wm r

/-- A register's stored bits, field by field: each field of 10_state.md at the bit position that the register's rule
gives it (R417, R419, R501, R502, R601-R611, R705-R708). -/
def registerImage (r : Reg) (s : State) : Half :=
  let square (c : Square) : Nat :=
    c.duty.toNat * 2 ^ 6 + c.env.step.toNat * 2 ^ 8 + c.env.dir.toNat * 2 ^ 11 + c.env.init.toNat * 2 ^ 12
  let control (lenEn : Bool) (freq : BitVec 11) : Nat := freq.toNat + lenEn.toNat * 2 ^ 14
  BitVec.ofNat 16 <|
    match r with
    | .sound1cntL => s.sweep.shift.toNat + s.sweep.dir.toNat * 2 ^ 3 + s.sweep.time.toNat * 2 ^ 4
    | .sound1cntH => square s.ch1
    | .sound1cntX => control s.ch1.lenEn s.ch1.freq
    | .sound2cntL => square s.ch2
    | .sound2cntH => control s.ch2.lenEn s.ch2.freq
    | .sound3cntL => s.wave.dim.toNat * 2 ^ 5 + s.wave.bank.toNat * 2 ^ 6 + s.wave.play.toNat * 2 ^ 7
    | .sound3cntH => s.wave.vol.toNat * 2 ^ 13 + s.wave.force.toNat * 2 ^ 15
    | .sound3cntX => control s.wave.lenEn s.wave.freq
    | .sound4cntL =>
      s.noise.env.step.toNat * 2 ^ 8 + s.noise.env.dir.toNat * 2 ^ 11 + s.noise.env.init.toNat * 2 ^ 12
    | .sound4cntH =>
      s.noise.r.toNat + s.noise.width.toNat * 2 ^ 3 + s.noise.s.toNat * 2 ^ 4 + s.noise.lenEn.toNat * 2 ^ 14
    | .soundcntL =>
      s.apu.volR.toNat + s.apu.volL.toNat * 2 ^ 4 + s.apu.enR.toNat * 2 ^ 8 + s.apu.enL.toNat * 2 ^ 12
    | .soundcntH =>
      s.apu.psgRatio.toNat + s.fifoA.vol.toNat * 2 ^ 2 + s.fifoB.vol.toNat * 2 ^ 3 +
      s.fifoA.enR.toNat * 2 ^ 8 + s.fifoA.enL.toNat * 2 ^ 9 + s.fifoA.timer.toNat * 2 ^ 10 +
      s.fifoB.enR.toNat * 2 ^ 12 + s.fifoB.enL.toNat * 2 ^ 13 + s.fifoB.timer.toNat * 2 ^ 14
    | .soundcntX => s.apu.masterEn.toNat * 2 ^ 7
    | .soundbias => s.apu.bias.toNat + s.apu.resolution.toNat * 2 ^ 14
    | .waveRam k =>
      (s.wave.byte (!s.wave.bank) (2 * k.val)).toNat + (s.wave.byte (!s.wave.bank) (2 * k.val + 1)).toNat * 2 ^ 8
    | .tmcntL n => (s.timer n).reload.toNat
    | .tmcntH n =>
      (s.timer n).prescaler.toNat + (s.timer n).cascade.toNat * 2 ^ 2 + (s.timer n).irqEn.toNat * 2 ^ 6 +
      (s.timer n).enable.toNat * 2 ^ 7
    | .ie => s.irq.ie.toNat
    | .ime => s.irq.ime.toNat
    | .fifoA _ | .fifoB _ | .iflags | .haltcnt => 0

/-- The live bits a read shows, `dynamic(R)` (R206, R501, R707, R418). -/
def liveBits (r : Reg) (s : State) : Half :=
  match r with
  | .soundcntX =>
    BitVec.ofNat 16
      (s.ch1.enabled.toNat + s.ch2.enabled.toNat * 2 + s.wave.enabled.toNat * 4 + s.noise.enabled.toNat * 8)
  | .tmcntL n => (s.timer n).counter
  | .iflags => s.irq.flags
  | _ => 0

/-- What a write of a register may change, by its rule's "Flags written": `s` with only those fields taken
from `t`. -/
def writeFootprint (be : BitVec 2) (data : Half) (r : Reg) (s t : State) : State :=
  match r with
  | .sound1cntL => { s with sweep := { t.sweep with timer := s.sweep.timer } }
  | .sound1cntH =>
    { s with ch1 := { s.ch1 with
        duty := t.ch1.duty, length := t.ch1.length
        env := { t.ch1.env with timer := s.ch1.env.timer, volume := s.ch1.env.volume } } }
  | .sound1cntX =>
    if triggers be data then
      { s with
        ch1 := { t.ch1 with duty := s.ch1.duty, env := { s.ch1.env with timer := t.ch1.env.timer, volume := t.ch1.env.volume } }
        sweep := { s.sweep with timer := t.sweep.timer } }
    else { s with ch1 := { s.ch1 with freq := t.ch1.freq, lenEn := t.ch1.lenEn } }
  | .sound2cntL =>
    { s with ch2 := { s.ch2 with
        duty := t.ch2.duty, length := t.ch2.length
        env := { t.ch2.env with timer := s.ch2.env.timer, volume := s.ch2.env.volume } } }
  | .sound2cntH =>
    if triggers be data then
      { s with
        ch2 := { t.ch2 with duty := s.ch2.duty, env := { s.ch2.env with timer := t.ch2.env.timer, volume := t.ch2.env.volume } } }
    else { s with ch2 := { s.ch2 with freq := t.ch2.freq, lenEn := t.ch2.lenEn } }
  | .sound3cntL =>
    { s with wave := { s.wave with dim := t.wave.dim, bank := t.wave.bank, play := t.wave.play, enabled := t.wave.enabled } }
  | .sound3cntH => { s with wave := { s.wave with vol := t.wave.vol, force := t.wave.force, length := t.wave.length } }
  | .sound3cntX =>
    if triggers be data then
      { s with wave := { s.wave with
          freq := t.wave.freq, lenEn := t.wave.lenEn, enabled := t.wave.enabled, length := t.wave.length
          freqTimer := t.wave.freqTimer, pos := t.wave.pos } }
    else { s with wave := { s.wave with freq := t.wave.freq, lenEn := t.wave.lenEn } }
  | .sound4cntL =>
    { s with noise := { s.noise with
        length := t.noise.length
        env := { t.noise.env with timer := s.noise.env.timer, volume := s.noise.env.volume } } }
  | .sound4cntH =>
    if triggers be data then
      { s with noise := { t.noise with
          env := { s.noise.env with timer := t.noise.env.timer, volume := t.noise.env.volume } } }
    else
      { s with noise := { s.noise with r := t.noise.r, width := t.noise.width, s := t.noise.s, lenEn := t.noise.lenEn } }
  | .soundcntL => { s with apu := { s.apu with volR := t.apu.volR, volL := t.apu.volL, enR := t.apu.enR, enL := t.apu.enL } }
  | .soundcntH =>
    { s with
      apu := { s.apu with psgRatio := t.apu.psgRatio }
      fifoA := { t.fifoA with latch := s.fifoA.latch, requests := s.fifoA.requests }
      fifoB := { t.fifoB with latch := s.fifoB.latch, requests := s.fifoB.requests } }
  | .soundcntX =>
    { s with
      apu := { s.apu with masterEn := t.apu.masterEn }
      ch1 := { s.ch1 with enabled := t.ch1.enabled }
      ch2 := { s.ch2 with enabled := t.ch2.enabled }
      wave := { s.wave with enabled := t.wave.enabled }
      noise := { s.noise with enabled := t.noise.enabled } }
  | .soundbias => { s with apu := { s.apu with bias := t.apu.bias, resolution := t.apu.resolution } }
  | .waveRam _ => { s with wave := { s.wave with ram := t.wave.ram } }
  | .fifoA _ => { s with fifoA := { s.fifoA with queue := t.fifoA.queue } }
  | .fifoB _ => { s with fifoB := { s.fifoB with queue := t.fifoB.queue } }
  | .tmcntL n => s.setTimer n { s.timer n with reload := (t.timer n).reload }
  | .tmcntH n =>
    s.setTimer n { t.timer n with reload := (s.timer n).reload, overflows := (s.timer n).overflows }
  | .ie => { s with irq := { s.irq with ie := t.irq.ie } }
  | .iflags => { s with irq := { s.irq with flags := t.irq.flags } }
  | .ime => { s with irq := { s.irq with ime := t.irq.ime } }
  | .haltcnt => { s with sched := { s.sched with halt := t.sched.halt } }

/-- The freq a frequency and control register holds after a write that enables the high lane: the low byte is the
data's or the old one's, by its lane (R205, R603). -/
def writtenFreq (be : BitVec 2) (data : Half) (old : BitVec 11) : Nat :=
  (if be.getLsbD 0 then data.toNat % 256 else old.toNat % 256) + 256 * (data.toNat / 256 % 8)

/-- A FIFO after one FIFO_DRAIN (R703). -/
def drained (q : Fifo) : Fifo :=
  { q with
    queue := q.queue.tail
    latch := q.queue.headD q.latch
    requests := if q.queue.tail.length ≤ 16 then q.requests + 1 else q.requests }

/-- The overflow of timer n makes timer m overflow: m is n, or every timer above n up to m runs, cascades and stands at
0xFFFF (R504, R505, R506). -/
def overflowReaches (s : State) (n m : Fin 4) : Bool :=
  decide (n ≤ m) &&
  (List.finRange 4).all fun k =>
    decide (n < k ∧ k ≤ m → (s.timer k).enable = true ∧ (s.timer k).cascade = true ∧ (s.timer k).counter = 0xFFFF)

/-- A timer once the overflow of timer n has run through the cascade (R505, R506). -/
def cascaded (s : State) (n m : Fin 4) : Timer :=
  if overflowReaches s n m then
    { s.timer m with counter := (s.timer m).reload, overflows := (s.timer m).overflows + 1 }
  else if (∃ k : Fin 4, m.val = k.val + 1 ∧ overflowReaches s n k = true) ∧
      (s.timer m).enable = true ∧ (s.timer m).cascade = true then
    { s.timer m with counter := (s.timer m).counter + 1 }
  else s.timer m

/-- A FIFO once the overflow of timer n has run through the cascade: drained once if the timer it selects overflowed,
as it was otherwise (R505). -/
def drainedBy (s : State) (n : Fin 4) (q : Fifo) : Fifo :=
  if overflowReaches s n (if q.timer then 1 else 0) then drained q else q

/-- The prescaler divisors DIV (R500). -/
def divTable : List Nat := [1, 64, 256, 1024]

/-- A FIFO after a TIMER_TICK: drained once if the timer it selects overflowed in it, as it was otherwise (R505). -/
def drainedInTick (s t : State) (q : Fifo) : Fifo :=
  let n : Fin 4 := if q.timer then 1 else 0
  if (t.timer n).overflows = (s.timer n).overflows then q else drained q

/-- `k` TIMER_TICK events in a row. -/
def timerTicks : Nat → State → Result
  | 0, s => .next s
  | k + 1, s =>
    match exec .evtTimerTick s with
    | .next t => timerTicks k t
    | r => r

/-- A square channel after one SQ_TIMER, in numbers (R621). -/
def squareStepped (c c' : Square) : Prop :=
  if c.enabled = true then
    if 1 < c.freqTimer.toNat then
      c' = { c with freqTimer := c'.freqTimer } ∧ c'.freqTimer.toNat = c.freqTimer.toNat - 1
    else
      c' = { c with freqTimer := c'.freqTimer, dutyPos := c'.dutyPos } ∧
      c'.freqTimer.toNat = (2048 - c.freq.toNat) * 4 ∧ c'.dutyPos.toNat = (c.dutyPos.toNat + 1) % 8
  else c' = c

/-- A square channel after one envelope clock (R628). -/
def envelopeClocked (enabled : Bool) (e e' : Envelope) : Prop :=
  if enabled = true ∧ e.step ≠ 0 then
    if 1 < e.timer.toNat then e' = { e with timer := e'.timer } ∧ e'.timer.toNat = e.timer.toNat - 1
    else
      e' = { e with timer := e.step, volume := e'.volume } ∧
      e'.volume.toNat = (if e.dir then min 15 (e.volume.toNat + 1) else e.volume.toNat - 1)
  else e' = e

/-- A length counter and its channel's enable after one length clock (R626). -/
def lengthClocked (lenEn enabled enabled' : Bool) (len len' : Nat) : Prop :=
  if enabled = true ∧ lenEn = true ∧ 0 < len then len' = len - 1 ∧ enabled' = decide (len - 1 ≠ 0)
  else len' = len ∧ enabled' = enabled

/-- One side of MIX (R710), from the four samples and two latches. -/
def mixed (bias : Nat) (master : Bool) (vol ratioCode : Nat) (ratio3 psg fifo : Int) : Int :=
  let ratio : Int := if ratioCode = 0 then 1 else if ratioCode = 1 then 2 else if ratioCode = 2 then 4 else ratio3
  let p := if master then (psg * ((vol : Int) + 1) * ratio).fdiv 4 else 0
  let f := if master then fifo else 0
  min 1023 (max 0 (p + f + (bias : Int))) - 512

/-- The sum of the samples that the four enable bits let through (R710). -/
def enabledSum (en : BitVec 4) (samples : List Int) : Int :=
  ((List.range 4).map (fun k => if en.getLsbD k then samples.getD k 0 else 0)).sum

/-- The table DUTY (R600). -/
def dutyTable : List (List Nat) :=
  [ [0, 0, 0, 0, 0, 0, 0, 1],     -- 12.5 %
    [1, 0, 0, 0, 0, 0, 0, 1],     -- 25 %
    [1, 0, 0, 0, 0, 1, 1, 1],     -- 50 %
    [0, 1, 1, 1, 1, 1, 1, 0] ]    -- 75 %

/-- SAMPLE_SQ (R622). -/
def squareSample (c : Square) : Int :=
  if c.enabled then
    if (dutyTable.getD c.duty.toNat []).getD c.dutyPos.toNat 0 = 1 then (c.env.volume.toNat : Int)
    else -(c.env.volume.toNat : Int)
  else 0

/-- SAMPLE_WAVE, in numbers (R623). -/
def waveSample (c : Wave) : Int :=
  if c.enabled then
    let bank : Nat := if c.pos.toNat < 32 then c.bank.toNat else 1 - c.bank.toNat
    let j := c.pos.toNat % 32
    let byte := (c.byte (bank == 1) (j / 2)).toNat
    let nibble := if j % 2 = 0 then byte / 16 else byte % 16
    let w : Int := 2 * (nibble : Int) - 15
    if c.force then (3 * w).fdiv 4 else [0, w, w.fdiv 2, w.fdiv 4].getD c.vol.toNat 0
  else 0

/-- SAMPLE_NOISE (R624). -/
def noiseSample (c : Noise) : Int :=
  if c.enabled then (if c.out then (c.env.volume.toNat : Int) else -(c.env.volume.toNat : Int)) else 0

/-- The four channel samples (R632), by the formulas of R622, R623 and R624. -/
def samples (s : State) : List Int := [squareSample s.ch1, squareSample s.ch2, waveSample s.wave, noiseSample s.noise]

/-- A FIFO's term on one side (R710). -/
def fifoTerm (q : Fifo) (en : Bool) : Int := if en then (if q.vol then 2 else 1) * q.latch.toInt else 0

/-- What a word does on a port: the decoder's instruction is performed, or its refusal goes back to the port (R305,
R900). -/
def performed (p : Port) (w : Word) (s : State) : State :=
  match decode p w with
  | .refused e => { s with out := .refused p e w :: s.out }
  | .instr i =>
    match exec i s with
    | .next t => t
    | _ => s

/-- The word of a REG_WRITE at a byte offset (R301, R331). -/
def writeWord (be off data : Nat) : Word := BitVec.ofNat 32 (be * 2 ^ 28 + off / 2 * 2 ^ 17 + data)

/-- The word of a REG_READ at a byte offset (R301, R331). -/
def readWord (off : Nat) : Word := BitVec.ofNat 32 (0x70000000 + off / 2 * 2 ^ 17)

/-- The words of a bus access, in ascending offset order (R203, R204, R331). -/
def accessWords : BusAccess → List Word
  | .wr8 o v => [if o.toNat % 2 = 1 then writeWord 2 o.toNat (v.toNat * 256) else writeWord 1 o.toNat v.toNat]
  | .rd8 o => [readWord o.toNat]
  | .wr16 o v => [writeWord 3 o.toNat v.toNat]
  | .rd16 o => [readWord o.toNat]
  | .wr32 o v =>
    [writeWord 3 (o.toNat / 4 * 4) (v.toNat % 65536), writeWord 3 (o.toNat / 4 * 4 + 2) (v.toNat / 65536)]
  | .rd32 o => [readWord (o.toNat / 4 * 4), readWord (o.toNat / 4 * 4 + 2)]

/-- What a read access delivers, from the halfwords its transactions read, first one first (R203, R204). -/
def accessValue (a : BusAccess) (hs : List Nat) : Option Nat :=
  match a with
  | .rd8 o => some (if o.toNat % 2 = 1 then hs.getD 0 0 / 256 else hs.getD 0 0 % 256)
  | .rd16 _ => some (hs.getD 0 0)
  | .rd32 _ => some (hs.getD 0 0 + 65536 * hs.getD 1 0)
  | _ => none

/-- The halfwords that reads have sent between two states, in the order of time. -/
def halvesRead (s t : State) : List Nat :=
  (t.out.take (t.out.length - s.out.length)).reverse.filterMap
    (fun o => match o with | .readData v => some v.toNat | _ => none)

/-- Words performed on a port, in order. -/
def performedAll (p : Port) (ws : List Word) (s : State) : State := ws.foldl (fun s w => performed p w s) s

/-- What one thing that happens inside an oracle call does: the words act on their port as they do anywhere else, those
of a bus access in order with the sink's words between its two transactions, and a read access then delivers its value
(R203, R222, R940-R943). -/
def issued (x : Issue) (s : State) : State :=
  match x with
  | .bus w => performed .bus w s
  | .cpu w => performed .cpu w s
  | .irqsrc w => performed .irqsrc w s
  | .sink w => performed .sink w s
  | .access a between =>
    let ws := accessWords a
    let t := performedAll .bus ws.tail (performedAll .sink between (performedAll .bus (ws.take 1) s))
    match accessValue a (halvesRead s t) with
    | some v => { t with out := .accessData (BitVec.ofNat 32 v) :: t.out }
    | none => t

/-- Everything that happens inside one oracle call, in order. -/
def issuedAll (xs : List Issue) (s : State) : State := xs.foldl (fun s x => issued x s) s

/-- What happens inside a call of Video.Tick, as above. -/
def videoIssued (xs : List VideoIssue) (s : State) : State :=
  xs.foldl (fun s x => match x with | .irqsrc w => performed .irqsrc w s | .sink w => performed .sink w s) s

/-- What an agent issues, without the words the sink presents between. -/
def unpopped (xs : List Issue) : List Issue :=
  xs.filterMap fun x =>
    match x with
    | .sink _ => none
    | .access a _ => some (.access a [])
    | x => some x

/-- What the video stepper issues, without the words the sink presents between. -/
def unpoppedVideo (xs : List VideoIssue) : List VideoIssue :=
  xs.filter fun x =>
    match x with
    | .sink _ => false
    | .irqsrc _ => true

/-- The oracles' answers without the words the sink presents inside their calls. -/
def sinkless (e : Env) : Env :=
  let call (c : Call) : Call := { c with issues := unpopped c.issues }
  let video (v : VideoTick) : VideoTick := { v with issues := unpoppedVideo v.issues }
  { e with
    cpu := e.cpu.map call, cpuRest := call e.cpuRest
    dma := e.dma.map (Option.map call), dmaRest := e.dmaRest.map call
    video := e.video.map video, videoRest := video e.videoRest }

/-- Steps 1 to 3 of a pass: the wake rule and the interrupt signal, from the pending flags computed once (R410, R411,
R412). -/
def wokenAndSignalled (s : State) : State :=
  let pend := s.irq.ie &&& s.irq.flags
  let wakes := decide (s.sched.halt ≠ .running ∧ pend ≠ 0 ∧
    (s.sched.waitActive = false ∨ pend &&& s.sched.waitMask ≠ 0))
  let level := s.irq.ime && decide (pend ≠ 0)
  { s with
    sched := { s.sched with
      halt := if wakes then .running else s.sched.halt
      waitActive := s.sched.waitActive && !wakes
      irqLine := level
      irqEdges := s.sched.irqEdges + if level && !s.sched.irqLine then 1 else 0 }
    out := if level then .raiseInterrupt :: s.out else s.out }

/-- Step 4 of a pass that is not Stopped: the DMA engine is asked once and runs at most one unit, CPU.Step is called
exactly if the CPU then is Running, and the pass charges max(1, d + c) ticks, which are fanned out (R420). -/
def stepFour (s : State) : State :=
  let dma := s.env.dma.headD s.env.dmaRest
  let s := { s with env := { s.env with dma := s.env.dma.tail } }
  let s := match dma with | none => s | some d => issuedAll d.issues s
  let d := match dma with | none => 0 | some d => d.cost
  let cpu := s.env.cpu.headD s.env.cpuRest
  if s.sched.halt = .running then
    let s := issuedAll cpu.issues { s with env := { s.env with cpu := s.env.cpu.tail } }
    { s with seq := { s.seq with n := max 1 (d + cpu.cost), fan := true } }
  else { s with seq := { s.seq with n := max 1 d, fan := true } }

/-- The producer holds: the oldest waiting event is a RING_PUSH, the ring is full and the policy is Block (R823). -/
def holding (s : State) : Prop :=
  s.params.rbPolicy = .block ∧ s.params.rbCap.val ≤ s.ring.rb.length ∧
  ∃ arg es, s.events = { word := 0xCD000000, arg := arg } :: es

/-- The moves by which an agent outside the sequencer presents a word, with its port. -/
def wordMoves (w : Word) : List (Port × Move) :=
  [(.bus, .bus w), (.cpu, .cpu w), (.host, .host w), (.irqsrc, .irqsrc w), (.sink, .sink w)]

/-- One transition of RUN_FRAME's loops from a state in a frame where no event waits, line by line of R401: which event
it generates, what it counts, and what becomes of carry_ticks. In `carryTick` and `tickRun` the TICK that the line
before generated has been performed, in `passRun` the PASS. -/
def frameLoop (s t : State) : Prop :=
  let budget := 280896 * s.sched.speed.toNat
  match s.seq.phase with
  | .idle => t = s
  | .carry =>
    if 0 < s.sched.carry ∧ s.sched.i < budget then
      t = { s with seq := { s.seq with phase := .carryTick }, events := [{ word := 0xC1000000, arg := .none }] }
    else t = { s with seq := { s.seq with phase := .pass } }
  | .carryTick =>
    t = { s with
      sched := { s.sched with i := s.sched.i + 1, carry := s.sched.carry - 1 }, seq := { s.seq with phase := .carry } }
  | .pass =>
    if s.sched.i < budget then
      t = { s with seq := { s.seq with phase := .passRun }, events := [{ word := 0xC0000000, arg := .none }] }
    else
      t = { s with
        sched := { s.sched with inFrame := false }, seq := { s.seq with phase := .idle }
        out := .frameDone s.sched.didRender :: s.out }
  | .passRun => t = { s with seq := { s.seq with phase := .ticks, k := 0 } }
  | .ticks =>
    if s.seq.k < s.seq.n ∧ s.sched.i < budget then
      if s.seq.fan = true then
        t = { s with seq := { s.seq with phase := .tickRun }, events := [{ word := 0xC1000000, arg := .none }] }
      else t = { s with sched := { s.sched with i := s.sched.i + 1 }, seq := { s.seq with k := s.seq.k + 1 } }
    else
      t = { s with
        sched := { s.sched with carry := if s.seq.fan then s.seq.n - s.seq.k else 0 }, seq := { s.seq with phase := .pass } }
  | .tickRun =>
    t = { s with
      sched := { s.sched with i := s.sched.i + 1 }, seq := { s.seq with phase := .ticks, k := s.seq.k + 1 } }

/-- RESAMPLE of each of a list of mixed frames in turn. -/
def resampleAll : List (Rat × Rat) → State → Result
  | [], s => .next s
  | x :: xs, s =>
    match exec .evtResample { s with args := { s.args with mixL := x.1, mixR := x.2 } } with
    | .next t => resampleAll xs t
    | r => r

/-- RING_PUSH of each of a list of frames in turn. -/
def pushAll : List Frame → State → Result
  | [], s => .next s
  | fr :: frs, s =>
    match exec .evtRingPush { s with args := { s.args with push := fr } } with
    | .next t => pushAll frs t
    | r => r

/-- RING_POP of each of a list of (pad, count) in turn. -/
def popAll : List (Bool × Half) → State → Result
  | [], s => .next s
  | c :: cs, s =>
    match exec (.ringPop c.1 c.2) s with
    | .next t => popAll cs t
    | r => r

/-- The frames that RING_POPs returned, in the order of time; `outs` is newest first. -/
def framesReturned (outs : List Output) : List Frame :=
  outs.reverse.flatMap (fun o => match o with | .frames fs => fs | _ => [])

/-- A state without what the sink can see, change or choose: the ring buffer, the record of what was sent, and the
words it presents inside the oracles' calls. -/
def blind (s : State) : State :=
  { s with ring := { rb := [], dropped := 0, underruns := 0 }, out := [], env := sinkless s.env }

/-- A state without what the speed multiplier may change: the multiplier itself, did_render and Video.Render
calls. -/
def speedless (s : State) : State :=
  { s with sched := { s.sched with speed := 0, didRender := false }, out := s.out.filter (fun o => o != .render) }

/-- A binary32 that is neither infinite nor a NaN. -/
def finite32 (b : BitVec 32) : Bool := b.extractLsb' 23 8 != 255

end Sys2Proof.Claims

open Sys2Proof Sys2Proof.Machine Sys2Proof.Claims

/-! ## Encoding -/

/-- R305, R306, R308, R309: every well-formed instruction is read back from its own word on its row's port. -/
def Obligations.DecodeOfEncodeIsTheInstruction : Prop :=
  ∀ i : Instr, i.wellFormed = true → decode i.port (encode i) = .instr i

/-- R305: whatever the decoder accepts is the word of exactly that row, on that row's port. -/
def Obligations.AcceptedWordIsItsInstructionsEncoding : Prop :=
  ∀ (p : Port) (w : Word) (i : Instr), decode p w = .instr i → encode i = w ∧ i.port = p ∧ i.wellFormed = true

/-- R305: the decoder refuses with the code of the first check that fails, and only then. -/
def Obligations.DecoderRefusesByFirstFailingCheck : Prop :=
  ∀ (p : Port) (w : Word) (e : ErrCode), decode p w = .refused e ↔ failingCheck p w = some e

/-- R305, opcode_table.json: a word that matches a row's mask, enables a lane if it writes, and has a mapped address
only on a mapped row, decodes on the row's port to an instruction of that row. -/
def Obligations.OpcodeTableRowsDecodeToTheirInstruction : Prop :=
  ∀ row ∈ tableRows, ∀ w : Word,
    w &&& row.2.2 = row.2.1 →
    (w &&& 0xC0000000 = 0 → w &&& 0x30000000 ≠ 0) →
    (row.1 = "REG_WRITE_unmapped" ∨ row.1 = "REG_READ_unmapped" → regAt (w.extractLsb' 17 11) = none) →
    ∃ i, decode (tablePort w) w = .instr i ∧ rowName i = row.1

/-- R332 and 95_test_vectors.md X1-X9, X26, X27: words written out from the spec decode to what they stand for. -/
def Obligations.WrittenOutWordsDecode : Prop :=
  decode .bus 0x306487F8 = .instr (.regWriteSound1cntX 3 0x87F8) ∧
  decode .bus 0x12020008 = .instr (.regWriteIf 1 0x0008) ∧
  decode .bus 0x72020000 = .instr .regReadIf ∧
  decode .bus 0x23000000 = .instr (.regWriteHaltcnt 2 0) ∧
  decode .bus 0x310200C0 = .instr (.regWriteTmcntH 0 3 0x00C0) ∧
  decode .bus 0x30902301 = .instr (.regWriteWaveRam 0 3 0x2301) ∧
  decode .cpu 0x85000010 = .instr (.cpuIntrwait 0x0010) ∧
  decode .sink 0x87010200 = .instr (.ringPop true 512) ∧
  decode .host 0x82000004 = .instr (.setSpeed 4) ∧
  decode .internal 0xC3020000 = .instr (.evtTimerInc 2) ∧
  decode .internal 0xC5010000 = .instr (.evtFifoDrain .b)

/-! ## Register transactions -/

/-- R206, R211: in a state of the invariants of R902, a read of a mapped register completes, sends `(stored & RM) |
dynamic` to the bus and changes nothing else; the stored bits are the register's fields by name, at their positions. -/
def Obligations.RegisterReadsShowMaskedStoredAndLiveBits : Prop :=
  ∀ (r : Reg) (s : State), s.invariants = true →
    readValue r s = (registerImage r s &&& rm r) ||| liveBits r s ∧
    exec (readRow r) s = .next { s with out := .readData ((registerImage r s &&& rm r) ||| liveBits r s) :: s.out }

/-- R207: an unmapped halfword reads 0x0000 and ignores writes, with no other effect. -/
def Obligations.UnmappedHalfwordsReadZeroAndIgnoreWrites : Prop :=
  ∀ (h : BitVec 11) (be : BitVec 2) (data : Half) (s : State),
    exec (.regReadUnmapped h) s = .next { s with out := .readData 0 :: s.out } ∧
    exec (.regWriteUnmapped h be data) s = .next s

/-- R205, R211, R417, R419, R501, R502, R601-R611, R705-R708: a write of a storing register completes, and the register's
fields, each by name at its bit position, then hold the enabled lanes of the data and the other lanes of what they held,
under WM. -/
def Obligations.RegisterWritesStoreEnabledLanesUnderMask : Prop :=
  ∀ (r : Reg) (be : BitVec 2) (data : Half) (s : State), storing r = true →
    storedValue r s = registerImage r s ∧
    ∃ t, exec (writeRow be data r) s = .next t ∧
      registerImage r t = ((registerImage r s &&& ~~~laneMask be) ||| (data &&& laneMask be)) &&& wm r

/-- R601-R611, R701, R702, R705-R708, R417-R421, R501, R502: a write changes only the fields its rule lists. -/
def Obligations.RegisterWritesChangeOnlyTheirFields : Prop :=
  ∀ (r : Reg) (be : BitVec 2) (data : Half) (s : State),
    ∃ t, exec (writeRow be data r) s = .next t ∧ t = writeFootprint be data r s t

/-! ## Interrupt registers and requests -/

/-- R417, R418, R419: bit by bit, a write of IE takes the enabled lanes and keeps the rest, bits 15:14 reading 0; a
write of IF clears exactly the written ones of the enabled lanes and sets nothing; IME is bit 0 of the low lane. -/
def Obligations.InterruptRegisterWritesBitByBit : Prop :=
  ∀ (be : BitVec 2) (data : Half) (s : State),
    (∃ t, exec (.regWriteIe be data) s = .next t ∧ t = { s with irq := { s.irq with ie := t.irq.ie } } ∧
      ∀ n < 16, t.irq.ie.getLsbD n =
        (decide (n < 14) && if laneOn be n then data.getLsbD n else s.irq.ie.getLsbD n)) ∧
    (∃ t, exec (.regWriteIf be data) s = .next t ∧ t = { s with irq := { s.irq with flags := t.irq.flags } } ∧
      ∀ n < 16, t.irq.flags.getLsbD n =
        (s.irq.flags.getLsbD n && !(decide (n < 14) && laneOn be n && data.getLsbD n))) ∧
    exec (.regWriteIme be data) s =
      .next { s with irq := { s.irq with ime := if be.getLsbD 0 then data.getLsbD 0 else s.irq.ime } }

/-- R413, R414, R415, R421: a Running CPU becomes Halted or Stopped, or Halted with the wait recorded; a CPU that is
not Running is left alone; HALTCNT's high lane asks for Halt or Stop by bit 15, as CPU_HALT and CPU_STOP do, and its
low lane does nothing. -/
def Obligations.PowerRequestsLeaveRunningOnly : Prop :=
  ∀ (mask : BitVec 14) (be : BitVec 2) (data : Half) (s : State),
    let asks (h : HaltState) : State := { s with sched := { s.sched with halt := h } }
    exec .cpuHalt s = .next (if s.sched.halt = .running then asks .halted else s) ∧
    exec .cpuStop s = .next (if s.sched.halt = .running then asks .stopped else s) ∧
    exec (.cpuIntrwait mask) s =
      .next (if s.sched.halt = .running then
          { s with sched := { s.sched with halt := .halted, waitActive := true, waitMask := 0#2 ++ mask } }
        else s) ∧
    exec (.regWriteHaltcnt be data) s =
      .next (if be.getLsbD 1 = true ∧ s.sched.halt = .running then
          asks (if data.getLsbD 15 then .stopped else .halted)
        else s)

/-- R416: IRQ_REQUEST is the word 0x86000000 | bits on IRQSRC, refused ERR_RESERVED_BIT if a top bit of ARG16 is 1; it
sets exactly the requested flags, clears none, and changes nothing else. -/
def Obligations.IrqRequestSetsExactlyTheRequestedFlags : Prop :=
  ∀ (bits : BitVec 14) (s : State),
    decode .irqsrc (0x8600#16 ++ (0#2 ++ bits)) = .instr (.irqRequest bits) ∧
    (∀ top : BitVec 2, top ≠ 0 → decode .irqsrc (0x8600#16 ++ (top ++ bits)) = .refused .reservedBit) ∧
    ∃ t, exec (.irqRequest bits) s = .next t ∧ t = { s with irq := { s.irq with flags := t.irq.flags } } ∧
      ∀ n, t.irq.flags.getLsbD n = (s.irq.flags.getLsbD n || bits.getLsbD n)

/-- R418, R416, R505: a flag of IF goes from 0 to 1 only by IRQ_REQUEST, by a timer event, or inside a pass or a tick.
-/
def Obligations.FlagsAreSetOnlyByRequestsAndTimers : Prop :=
  ∀ (i : Instr) (s t : State) (n : Nat),
    exec i s = .next t → s.irq.flags.getLsbD n = false → t.irq.flags.getLsbD n = true →
    (∃ b, i = .irqRequest b) ∨ i = .evtTimerTick ∨ (∃ m, i = .evtTimerInc m) ∨ (∃ m, i = .evtTimerOverflow m) ∨
    i = .evtPass ∨ i = .evtTick

/-! ## Timers -/

/-- R501, R502: a write of the reload leaves the counter; a write of the control sets the four fields, and a start
(enable 0 to 1), and only a start, loads the counter from the reload and clears the prescaler accumulator. -/
def Obligations.TimerControlWriteStartsOnEnable : Prop :=
  ∀ (n : Fin 4) (be : BitVec 2) (data : Half) (s : State),
    (∃ t, exec (.regWriteTmcntL n be data) s = .next t ∧ (t.timer n).counter = (s.timer n).counter) ∧
    (∃ t, exec (.regWriteTmcntH n be data) s = .next t ∧
      (be.getLsbD 0 = true →
        (t.timer n).prescaler.toNat = data.toNat % 4 ∧ (t.timer n).cascade = data.getLsbD 2 ∧
        (t.timer n).irqEn = data.getLsbD 6 ∧ (t.timer n).enable = data.getLsbD 7) ∧
      (be.getLsbD 0 = false → t = s) ∧
      (if (s.timer n).enable = false ∧ (t.timer n).enable = true then
         (t.timer n).counter = (s.timer n).reload ∧ (t.timer n).preAcc = 0
       else (t.timer n).counter = (s.timer n).counter ∧ (t.timer n).preAcc = (s.timer n).preAcc))

/-- R504: TIMER_INC adds one to the counter, and from 0xFFFF it is TIMER_OVERFLOW. -/
def Obligations.TimerIncrementOverflowsFromFFFF : Prop :=
  ∀ (n : Fin 4) (s : State),
    ((s.timer n).counter ≠ 0xFFFF →
      exec (.evtTimerInc n) s = .next (s.setTimer n { s.timer n with counter := (s.timer n).counter + 1 })) ∧
    ((s.timer n).counter = 0xFFFF → exec (.evtTimerInc n) s = exec (.evtTimerOverflow n) s)

/-- R505, R506: an overflow of timer n reloads its counter and counts itself; each timer above takes one increment for
each overflow of the timer below it if it runs and cascades, overflowing from 0xFFFF, and no other timer changes;
exactly the flags of the timers that overflowed with irq_en 1 are set, and none is cleared; a FIFO is drained exactly
once if the timer it selects overflowed, and otherwise stays; and nothing but the FIFO requests these drains count is
sent. -/
def Obligations.TimerOverflowReloadsFlagsDrainsAndCascades : Prop :=
  ∀ (n : Fin 4) (s : State),
    ∃ t, exec (.evtTimerOverflow n) s = .next t ∧
      t = { s with timers := t.timers, irq := { s.irq with flags := t.irq.flags }, fifoA := drainedBy s n s.fifoA,
                   fifoB := drainedBy s n s.fifoB, out := t.out } ∧
      (∀ m : Fin 4, t.timer m = cascaded s n m) ∧
      t.timer n = { s.timer n with counter := (s.timer n).reload, overflows := (s.timer n).overflows + 1 } ∧
      (∀ m : Fin 4, t.irq.flags.getLsbD (3 + m.val) =
        (s.irq.flags.getLsbD (3 + m.val) || (overflowReaches s n m && (s.timer m).irqEn))) ∧
      (∀ b, b < 3 ∨ 6 < b → t.irq.flags.getLsbD b = s.irq.flags.getLsbD b) ∧
      ∃ os, t.out = os ++ s.out ∧ (∀ o ∈ os, ∃ f, o = .dmaFifoRequest f) ∧
        ∀ f, (t.fifo f).requests = (s.fifo f).requests + os.count (.dmaFifoRequest f)

/-- R500, R503-R506, R509: a TIMER_TICK changes only timers, IF, FIFOs and the record of requests; it leaves a stopped
timer, and the prescaler accumulator of a cascading one, alone; a running prescaled timer adds one to its accumulator,
and at or above the divisor, also where a prescaler change left it above (R502), sets it to 0 and counts one; no timer overflows in it more than once; a running
cascading timer counts exactly the overflows that the timer below it makes in the tick; exactly the flags 3 + n of the
timers that overflowed in it with irq_en 1 are set, and none is cleared; a FIFO is drained exactly once if the timer it
selects overflowed in it, and stays otherwise; and only the FIFO requests these drains count are sent. -/
def Obligations.TimerTickStopsAndCascades : Prop :=
  ∀ s : State, ∃ t, exec .evtTimerTick s = .next t ∧
    t = { s with timers := t.timers, irq := { s.irq with flags := t.irq.flags }, fifoA := drainedInTick s t s.fifoA,
                 fifoB := drainedInTick s t s.fifoB, out := t.out } ∧
    (∀ m : Fin 4,
      ((s.timer m).enable = false → t.timer m = s.timer m) ∧
      (m ≠ 0 → (s.timer m).cascade = true → (t.timer m).preAcc = (s.timer m).preAcc) ∧
      ((s.timer m).enable = true → m = 0 ∨ (s.timer m).cascade = false →
        if (s.timer m).preAcc.toNat + 1 < divTable.getD (s.timer m).prescaler.toNat 0 then
          t.timer m = { s.timer m with preAcc := (s.timer m).preAcc + 1 }
        else if (s.timer m).counter = 0xFFFF then
          t.timer m =
            { s.timer m with preAcc := 0, counter := (s.timer m).reload, overflows := (s.timer m).overflows + 1 }
        else t.timer m = { s.timer m with preAcc := 0, counter := (s.timer m).counter + 1 }) ∧
      ((t.timer m).overflows = (s.timer m).overflows ∨ (t.timer m).overflows = (s.timer m).overflows + 1) ∧
      t.timer m = { s.timer m with
        counter := (t.timer m).counter, preAcc := (t.timer m).preAcc, overflows := (t.timer m).overflows } ∧
      t.irq.flags.getLsbD (3 + m.val) =
        (s.irq.flags.getLsbD (3 + m.val) ||
          (decide ((t.timer m).overflows ≠ (s.timer m).overflows) && (s.timer m).irqEn))) ∧
    (∀ b, b < 3 ∨ 6 < b → t.irq.flags.getLsbD b = s.irq.flags.getLsbD b) ∧
    (∃ os, t.out = os ++ s.out ∧ (∀ o ∈ os, ∃ f, o = .dmaFifoRequest f) ∧
      ∀ f, (t.fifo f).requests = (s.fifo f).requests + os.count (.dmaFifoRequest f)) ∧
    ∀ n m : Fin 4, m.val = n.val + 1 → (s.timer m).enable = true → (s.timer m).cascade = true →
      ((t.timer n).overflows = (s.timer n).overflows ∧ t.timer m = s.timer m) ∨
      ((t.timer n).overflows = (s.timer n).overflows + 1 ∧
        (if (s.timer m).counter = 0xFFFF then
           t.timer m = { s.timer m with counter := (s.timer m).reload, overflows := (s.timer m).overflows + 1 }
         else t.timer m = { s.timer m with counter := (s.timer m).counter + 1 }))

/-- R500, R507: k TIMER_TICKs advance a running prescaled timer by the closed form, from an accumulator below the divisor.
-/
def Obligations.BatchedTimerTicksFollowTheClosedForm : Prop :=
  ∀ (n : Fin 4) (k : Nat) (s : State),
    (s.timer n).enable = true → (n = 0 ∨ (s.timer n).cascade = false) →
    (s.timer n).preAcc.toNat < divTable.getD (s.timer n).prescaler.toNat 0 →
    ∃ t, timerTicks k s = .next t ∧
      let d := divTable.getD (s.timer n).prescaler.toNat 0
      let p := (s.timer n).preAcc.toNat
      let c := (s.timer n).counter.toNat
      let r := (s.timer n).reload.toNat
      let inc := (p + k) / d
      (t.timer n).preAcc.toNat = (p + k) % d ∧
      (inc < 0x10000 - c →
        (t.timer n).overflows = (s.timer n).overflows ∧ (t.timer n).counter.toNat = c + inc) ∧
      (0x10000 - c ≤ inc →
        (t.timer n).overflows = (s.timer n).overflows + 1 + (inc - (0x10000 - c)) / (0x10000 - r) ∧
        (t.timer n).counter.toNat = r + (inc - (0x10000 - c)) % (0x10000 - r))

/-! ## PSG channels -/

/-- R629, with the freq of R603 and R605: a trigger write of channel 1 or 2 restarts the channel. -/
def Obligations.SquareTriggerRestartsTheChannel : Prop :=
  ∀ (be : BitVec 2) (data : Half) (s : State), triggers be data = true →
    (∃ t, exec (.regWriteSound1cntX be data) s = .next t ∧
      t.ch1.freq.toNat = writtenFreq be data s.ch1.freq ∧ t.ch1.lenEn = data.getLsbD 14 ∧
      t.ch1.enabled = true ∧ t.ch1.length = (if s.ch1.length = 0 then 64 else s.ch1.length) ∧
      t.ch1.freqTimer.toNat = (2048 - writtenFreq be data s.ch1.freq) * 4 ∧ t.ch1.dutyPos = 0 ∧
      t.ch1.env = { s.ch1.env with volume := s.ch1.env.init, timer := s.ch1.env.step } ∧
      t.sweep = { s.sweep with timer := s.sweep.time }) ∧
    (∃ t, exec (.regWriteSound2cntH be data) s = .next t ∧
      t.ch2.freq.toNat = writtenFreq be data s.ch2.freq ∧ t.ch2.lenEn = data.getLsbD 14 ∧
      t.ch2.enabled = true ∧ t.ch2.length = (if s.ch2.length = 0 then 64 else s.ch2.length) ∧
      t.ch2.freqTimer.toNat = (2048 - writtenFreq be data s.ch2.freq) * 4 ∧ t.ch2.dutyPos = 0 ∧
      t.ch2.env = { s.ch2.env with volume := s.ch2.env.init, timer := s.ch2.env.step } ∧ t.sweep = s.sweep)

/-- R630, with the freq of R608: a trigger write of channel 3 enables it only while wave_play is 1, and loads length,
timer and position in any case. -/
def Obligations.WaveTriggerEnablesOnlyWhilePlaying : Prop :=
  ∀ (be : BitVec 2) (data : Half) (s : State), triggers be data = true →
    ∃ t, exec (.regWriteSound3cntX be data) s = .next t ∧
      t.wave.freq.toNat = writtenFreq be data s.wave.freq ∧
      t.wave.enabled = (s.wave.enabled || s.wave.play) ∧
      t.wave.length = (if s.wave.length = 0 then 256 else s.wave.length) ∧
      t.wave.freqTimer.toNat = (2048 - writtenFreq be data s.wave.freq) * 2 ∧ t.wave.pos = 0

/-- R631: a trigger write of channel 4 enables it, seeds the LFSR by the width the write sets, and loads its timer
with NDIV[r] << s. -/
def Obligations.NoiseTriggerSeedsTheLfsr : Prop :=
  ∀ (be : BitVec 2) (data : Half) (s : State), triggers be data = true →
    ∃ t, exec (.regWriteSound4cntH be data) s = .next t ∧
      t.noise.enabled = true ∧ t.noise.length = (if s.noise.length = 0 then 64 else s.noise.length) ∧
      t.noise.lfsr = (if t.noise.width then 0x40 else 0x4000) ∧ t.noise.out = false ∧
      t.noise.freqTimer.toNat = (if t.noise.r = 0 then 8 else 16 * t.noise.r.toNat) * 2 ^ t.noise.s.toNat ∧
      t.noise.env = { s.noise.env with volume := s.noise.env.init, timer := s.noise.env.step } ∧
      (be.getLsbD 0 = true →
        t.noise.r.toNat = data.toNat % 8 ∧ t.noise.width = data.getLsbD 3 ∧ t.noise.s.toNat = data.toNat / 16 % 16)

/-- R602, R604, R607, R609: a length load happens when its lane is enabled, enabled channel or not, and gives 64 - L
or 256 - L. -/
def Obligations.LengthLoadsNeedTheLowLane : Prop :=
  ∀ (be : BitVec 2) (data : Half) (s : State),
    (∃ t, exec (.regWriteSound1cntH be data) s = .next t ∧
      t.ch1.length.toNat = if be.getLsbD 0 then 64 - data.toNat % 64 else s.ch1.length.toNat) ∧
    (∃ t, exec (.regWriteSound2cntL be data) s = .next t ∧
      t.ch2.length.toNat = if be.getLsbD 0 then 64 - data.toNat % 64 else s.ch2.length.toNat) ∧
    (∃ t, exec (.regWriteSound3cntH be data) s = .next t ∧
      t.wave.length.toNat = if be.getLsbD 0 then 256 - data.toNat % 256 else s.wave.length.toNat) ∧
    (∃ t, exec (.regWriteSound4cntL be data) s = .next t ∧
      t.noise.length.toNat = if be.getLsbD 0 then 64 - data.toNat % 64 else s.noise.length.toNat)

/-- R611: a write of WAVE_RAM[k] reaches the enabled bytes of halfword k of the bank that is not selected for
playback, and no other byte of either bank. -/
def Obligations.WaveRamWriteReachesTheOtherBankOnly : Prop :=
  ∀ (k : Fin 8) (be : BitVec 2) (data : Half) (s : State),
    ∃ t, exec (.regWriteWaveRam k be data) s = .next t ∧
      ∀ (bank : Bool) (j : Fin 16),
        t.wave.byte bank j.val =
          if bank = !s.wave.bank ∧ j.val = 2 * k.val ∧ be.getLsbD 0 = true then data.extractLsb' 0 8
          else if bank = !s.wave.bank ∧ j.val = 2 * k.val + 1 ∧ be.getLsbD 1 = true then data.extractLsb' 8 8
          else s.wave.byte bank j.val

/-- R620-R624: an APU_STEP between frame-sequencer clocks steps the four frequency timers, advances fs_counter, and
leaves everything else. -/
def Obligations.ApuStepAdvancesFrequencyTimers : Prop :=
  ∀ s : State, s.apu.fsCounter.toNat ≠ 8191 →
    ∃ t, exec .evtApuStep s = .next t ∧
      t = { s with ch1 := t.ch1, ch2 := t.ch2, wave := t.wave, noise := t.noise,
                   apu := { s.apu with fsCounter := s.apu.fsCounter + 1 } } ∧
      squareStepped s.ch1 t.ch1 ∧ squareStepped s.ch2 t.ch2 ∧
      (if s.wave.enabled = false then t.wave = s.wave
       else if 1 < s.wave.freqTimer.toNat then
         t.wave = { s.wave with freqTimer := t.wave.freqTimer } ∧ t.wave.freqTimer.toNat = s.wave.freqTimer.toNat - 1
       else
         t.wave = { s.wave with freqTimer := t.wave.freqTimer, pos := t.wave.pos } ∧
         t.wave.freqTimer.toNat = (2048 - s.wave.freq.toNat) * 2 ∧
         t.wave.pos.toNat = (s.wave.pos.toNat + 1) % (if s.wave.dim then 64 else 32)) ∧
      (if s.noise.enabled = false ∨ 14 ≤ s.noise.s.toNat then t.noise = s.noise
       else if 1 < s.noise.freqTimer.toNat then
         t.noise = { s.noise with freqTimer := t.noise.freqTimer } ∧
         t.noise.freqTimer.toNat = s.noise.freqTimer.toNat - 1
       else
         t.noise = { s.noise with freqTimer := t.noise.freqTimer, lfsr := t.noise.lfsr, out := s.noise.lfsr.getLsbD 0 } ∧
         t.noise.freqTimer.toNat = (if s.noise.r = 0 then 8 else 16 * s.noise.r.toNat) * 2 ^ s.noise.s.toNat ∧
         t.noise.lfsr.toNat = Nat.xor (s.noise.lfsr.toNat / 2)
           (if s.noise.lfsr.getLsbD 0 then (if s.noise.width then 0x60 else 0x6000) else 0))

/-- R620: the 8192nd APU_STEP clocks the frame sequencer after the frequency timers, with fs_counter back at 0. -/
def Obligations.EveryEightThousandthApuStepClocksTheSequencer : Prop :=
  ∀ s : State, s.apu.fsCounter.toNat = 8191 →
    ∃ u, exec .evtApuStep { s with apu := { s.apu with fsCounter := 0 } } = .next u ∧
      exec .evtApuStep s = exec .evtFsClock { u with apu := { u.apu with fsCounter := 0 } }

/-- R625: FS_CLOCK, the word 0xC7000000, at step 0 or 4 clocks the lengths, at 2 or 6 the lengths and then the sweep,
at 7 the envelopes, at 1, 3 or 5 nothing; the step then advances modulo 8. -/
def Obligations.FrameSequencerClocksUnitsByStep : Prop :=
  ∀ s : State,
    let next (u : State) : Result := .next { u with apu := { u.apu with fsStep := u.apu.fsStep + 1 } }
    decode .internal 0xC7000000 = .instr .evtFsClock ∧
    (s.apu.fsStep.toNat ∈ [0, 4] → ∃ u, exec .evtLengthClock s = .next u ∧ exec .evtFsClock s = next u) ∧
    (s.apu.fsStep.toNat ∈ [2, 6] →
      ∃ u v, exec .evtLengthClock s = .next u ∧ exec .evtSweepClock u = .next v ∧ exec .evtFsClock s = next v) ∧
    (s.apu.fsStep.toNat = 7 → ∃ u, exec .evtEnvelopeClock s = .next u ∧ exec .evtFsClock s = next u) ∧
    (s.apu.fsStep.toNat ∈ [1, 3, 5] → exec .evtFsClock s = next s)

/-- R626: LENGTH_CLOCK, the word 0xC8000000, counts down the running lengths and disables a channel whose length
reaches 0; it changes nothing else. -/
def Obligations.LengthClockCountsDownAndDisables : Prop :=
  ∀ s : State, decode .internal 0xC8000000 = .instr .evtLengthClock ∧ ∃ t, exec .evtLengthClock s = .next t ∧
    t = { s with
      ch1 := { s.ch1 with length := t.ch1.length, enabled := t.ch1.enabled }
      ch2 := { s.ch2 with length := t.ch2.length, enabled := t.ch2.enabled }
      wave := { s.wave with length := t.wave.length, enabled := t.wave.enabled }
      noise := { s.noise with length := t.noise.length, enabled := t.noise.enabled } } ∧
    lengthClocked s.ch1.lenEn s.ch1.enabled t.ch1.enabled s.ch1.length.toNat t.ch1.length.toNat ∧
    lengthClocked s.ch2.lenEn s.ch2.enabled t.ch2.enabled s.ch2.length.toNat t.ch2.length.toNat ∧
    lengthClocked s.wave.lenEn s.wave.enabled t.wave.enabled s.wave.length.toNat t.wave.length.toNat ∧
    lengthClocked s.noise.lenEn s.noise.enabled t.noise.enabled s.noise.length.toNat t.noise.length.toNat

/-- R627: SWEEP_CLOCK, the word 0xC9000000, counts down, and on expiry computes freq ± (freq >> shift): above 2047 the
channel is disabled and the freq kept, otherwise the freq is stored if the shift is not 0. It changes nothing else. -/
def Obligations.SweepClockMovesTheFrequencyOrDisables : Prop :=
  ∀ s : State, decode .internal 0xC9000000 = .instr .evtSweepClock ∧ ∃ t, exec .evtSweepClock s = .next t ∧
    t = { s with
      ch1 := { s.ch1 with freq := t.ch1.freq, enabled := t.ch1.enabled }
      sweep := { s.sweep with timer := t.sweep.timer } } ∧
    (if s.ch1.enabled = false ∨ s.sweep.time = 0 then t = s
     else if 1 < s.sweep.timer.toNat then
       t.ch1 = s.ch1 ∧ t.sweep.timer.toNat = s.sweep.timer.toNat - 1
     else
       t.sweep.timer = s.sweep.time ∧
       (let f : Int := s.ch1.freq.toNat
        let delta : Int := f / 2 ^ s.sweep.shift.toNat
        let new : Int := if s.sweep.dir then f - delta else f + delta
        if 2047 < new then t.ch1.enabled = false ∧ t.ch1.freq = s.ch1.freq
        else
          t.ch1.enabled = true ∧
          (t.ch1.freq.toNat : Int) = if s.sweep.shift = 0 then f else new))

/-- R628: ENVELOPE_CLOCK, the word 0xCA000000, counts down the enabled channels 1, 2 and 4 whose step is not 0, and on
expiry moves the volume by one, stopping at 0 and 15. It changes nothing else. -/
def Obligations.EnvelopeClockMovesVolumeWithinRange : Prop :=
  ∀ s : State, decode .internal 0xCA000000 = .instr .evtEnvelopeClock ∧ ∃ t, exec .evtEnvelopeClock s = .next t ∧
    t = { s with
      ch1 := { s.ch1 with env := t.ch1.env }
      ch2 := { s.ch2 with env := t.ch2.env }
      noise := { s.noise with env := t.noise.env } } ∧
    envelopeClocked s.ch1.enabled s.ch1.env t.ch1.env ∧ envelopeClocked s.ch2.enabled s.ch2.env t.ch2.env ∧
    envelopeClocked s.noise.enabled s.noise.env t.noise.env

/-- R633: a channel goes from disabled to enabled only by a trigger write of its own register, or inside a pass, whose
agents may issue one. -/
def Obligations.ChannelsBecomeEnabledOnlyByATrigger : Prop :=
  ∀ (i : Instr) (s t : State), exec i s = .next t →
    (s.ch1.enabled = false → t.ch1.enabled = true →
      i = .evtPass ∨ ∃ be data, i = .regWriteSound1cntX be data ∧ triggers be data = true) ∧
    (s.ch2.enabled = false → t.ch2.enabled = true →
      i = .evtPass ∨ ∃ be data, i = .regWriteSound2cntH be data ∧ triggers be data = true) ∧
    (s.wave.enabled = false → t.wave.enabled = true →
      i = .evtPass ∨ ∃ be data, i = .regWriteSound3cntX be data ∧ triggers be data = true) ∧
    (s.noise.enabled = false → t.noise.enabled = true →
      i = .evtPass ∨ ∃ be data, i = .regWriteSound4cntH be data ∧ triggers be data = true)

/-- R600, R622-R624, R632: the four channel samples have the values of their formulas; each lies in -15..15 and is 0
while its channel is disabled. -/
def Obligations.ChannelSamplesStayWithinFifteen : Prop :=
  ∀ s : State,
    s.ch1.sample = squareSample s.ch1 ∧ s.ch2.sample = squareSample s.ch2 ∧ s.wave.sample = waveSample s.wave ∧
    s.noise.sample = noiseSample s.noise ∧
    (∀ x ∈ samples s, -15 ≤ x ∧ x ≤ 15) ∧
    (s.ch1.enabled = false → s.ch1.sample = 0) ∧ (s.ch2.enabled = false → s.ch2.sample = 0) ∧
    (s.wave.enabled = false → s.wave.sample = 0) ∧ (s.noise.enabled = false → s.noise.sample = 0)

/-! ## FIFOs, sound control and mixer -/

/-- R701, R702: a write of a FIFO register appends the enabled lanes' bytes, low lane first, and discards what does
not fit in 32; latch and counters stay. -/
def Obligations.FifoWritesAppendUpToThirtyTwo : Prop :=
  ∀ (h : Fin 2) (be : BitVec 2) (data : Half) (s : State),
    let bytes : List Byte :=
      (if be.getLsbD 0 then [data.extractLsb' 0 8] else []) ++ (if be.getLsbD 1 then [data.extractLsb' 8 8] else [])
    (s.fifoA.queue.length ≤ 32 →
      exec (.regWriteFifoA h be data) s =
        .next { s with fifoA := { s.fifoA with queue := (s.fifoA.queue ++ bytes).take 32 } }) ∧
    (s.fifoB.queue.length ≤ 32 →
      exec (.regWriteFifoB h be data) s =
        .next { s with fifoB := { s.fifoB with queue := (s.fifoB.queue ++ bytes).take 32 } })

/-- R703: FIFO_DRAIN(f), the word 0xC5000000 | (f << 16), moves the oldest sample to the latch, keeps the latch of an
empty FIFO, and counts and sends one DMA request exactly when at most 16 samples are left. -/
def Obligations.FifoDrainFillsLatchAndRequestsDma : Prop :=
  ∀ (f : FifoId) (s : State),
    decode .internal (match f with | .a => 0xC5000000 | .b => 0xC5010000) = .instr (.evtFifoDrain f) ∧
    exec (.evtFifoDrain f) s =
      let t := s.setFifo f (drained (s.fifo f))
      .next { t with out := if (s.fifo f).queue.tail.length ≤ 16 then .dmaFifoRequest f :: s.out else s.out }

/-- R606, R704, R707: what switches sound off. SOUND3CNT_L with wave_play 0 disables channel 3, and with wave_play 1
enables nothing; a reset strobe of SOUNDCNT_H's enabled high lane empties its FIFO and keeps its latch; master_en's 1
to 0 transition, and nothing else in SOUNDCNT_X, disables all four channels. -/
def Obligations.ControlWritesSwitchSoundOff : Prop :=
  ∀ (be : BitVec 2) (data : Half) (s : State),
    (∃ t, exec (.regWriteSound3cntL be data) s = .next t ∧
      t.wave = { s.wave with
        play := if be.getLsbD 0 then data.getLsbD 7 else s.wave.play
        bank := if be.getLsbD 0 then data.getLsbD 6 else s.wave.bank
        dim := if be.getLsbD 0 then data.getLsbD 5 else s.wave.dim
        enabled := s.wave.enabled && (if be.getLsbD 0 then data.getLsbD 7 else s.wave.play) }) ∧
    (∃ t, exec (.regWriteSoundcntH be data) s = .next t ∧
      t.fifoA.queue = (if be.getLsbD 1 && data.getLsbD 11 then [] else s.fifoA.queue) ∧
      t.fifoB.queue = (if be.getLsbD 1 && data.getLsbD 15 then [] else s.fifoB.queue) ∧
      t.fifoA.latch = s.fifoA.latch ∧ t.fifoB.latch = s.fifoB.latch) ∧
    (let off := be.getLsbD 0 && s.apu.masterEn && !data.getLsbD 7
     exec (.regWriteSoundcntX be data) s =
      .next { s with
        apu := { s.apu with masterEn := if be.getLsbD 0 then data.getLsbD 7 else s.apu.masterEn }
        ch1 := { s.ch1 with enabled := s.ch1.enabled && !off }
        ch2 := { s.ch2 with enabled := s.ch2.enabled && !off }
        wave := { s.wave with enabled := s.wave.enabled && !off }
        noise := { s.noise with enabled := s.noise.enabled && !off } })

/-- R710, R711: MIX mixes each side by the formula, every mixed value lies in -512..511, and the frame m / 512 is what
RESAMPLE then takes; MIX writes nothing of its own. -/
def Obligations.MixFollowsTheFormulaWithinTenBits : Prop :=
  ∀ s : State,
    let side (vol : BitVec 3) (en : BitVec 4) (fifo : Int) : Int :=
      mixed s.apu.bias.toNat s.apu.masterEn vol.toNat s.apu.psgRatio.toNat s.params.psgRatio3
        (enabledSum en (samples s)) fifo
    let l := side s.apu.volL s.apu.enL (fifoTerm s.fifoA s.fifoA.enL + fifoTerm s.fifoB s.fifoB.enL)
    let r := side s.apu.volR s.apu.enR (fifoTerm s.fifoA s.fifoA.enR + fifoTerm s.fifoB s.fifoB.enR);
    (-512 ≤ l ∧ l ≤ 511) ∧ (-512 ≤ r ∧ r ≤ 511) ∧
    (∃ t, exec .evtMix s = .next t) ∧
    exec .evtMix s =
      exec .evtResample { s with args := { s.args with mixL := (l : Rat) / 512, mixR := (r : Rat) / 512 } }

/-! ## Resampler and ring buffer -/

/-- R801, R805: from a phase of at least 0, RESAMPLE puts in front of the waiting events one RING_PUSH for each phase
+ j * rs_step below 1, in order, of the interpolated frame rounded to binary32; it keeps the input as the new history
and leaves a phase of at least 0. It changes nothing else. -/
def Obligations.ResampleInterpolatesAndQueuesPushes : Prop :=
  ∀ s : State, 0 ≤ s.resampler.phase →
    ∃ (t : State) (n : Nat), exec .evtResample s = .next t ∧
      (∀ j : Nat, s.resampler.phase + j * s.params.rsStep < 1 ↔ j < n) ∧
      t = { s with
        resampler :=
          { prevL := s.args.mixL, prevR := s.args.mixR, phase := s.resampler.phase + n * s.params.rsStep - 1 }
        events :=
          (List.range n).map (fun j =>
            let ph : Rat := s.resampler.phase + j * s.params.rsStep
            { word := 0xCD000000
              arg := .output
                ⟨roundF32 (s.resampler.prevL + (s.args.mixL - s.resampler.prevL) * ph),
                 roundF32 (s.resampler.prevR + (s.args.mixR - s.resampler.prevR) * ph)⟩ }) ++ s.events } ∧
      0 ≤ t.resampler.phase

/-- R805, R812: from phase 0, after N inputs exactly ceil(N * OUT_RATE / IN_RATE) outputs have been produced. -/
def Obligations.ResamplerOutputCountIsExact : Prop :=
  ∀ (xs : List (Rat × Rat)) (s : State), s.resampler.phase = 0 →
    ∃ t, resampleAll xs s = .next t ∧
      (t.events.length : Int) = s.events.length + ⌈((xs.length * s.params.outRate.val : Nat) : Rat) / 32768⌉

/-- R813: with history and input in [-1, 1] and a phase in [0, 1), every output component is a binary32 of magnitude
at most 1. -/
def Obligations.ResamplerOutputsStayInRange : Prop :=
  ∀ s : State, 0 ≤ s.resampler.phase →
    -1 ≤ s.resampler.prevL → s.resampler.prevL ≤ 1 → -1 ≤ s.resampler.prevR → s.resampler.prevR ≤ 1 →
    -1 ≤ s.args.mixL → s.args.mixL ≤ 1 → -1 ≤ s.args.mixR → s.args.mixR ≤ 1 → s.events = [] →
    ∃ t, exec .evtResample s = .next t ∧
      ∀ e ∈ t.events, ∃ fr, e.arg = .output fr ∧
        (fr.l &&& 0x7FFFFFFF).toNat ≤ 0x3F800000 ∧ (fr.r &&& 0x7FFFFFFF).toNat ≤ 0x3F800000

/-- R805: round_f32 gives a nearest binary32, and the even one of two equally near. Stated for magnitudes up to 1, the
range of every frame. -/
def Obligations.RoundingIsToNearestTiesToEven : Prop :=
  ∀ q : Rat, -1 ≤ q → q ≤ 1 → ∀ b : BitVec 32, finite32 b = true →
    |f32Value (roundF32 q) - q| ≤ |f32Value b - q| ∧
    (|f32Value (roundF32 q) - q| = |f32Value b - q| → f32Value b ≠ f32Value (roundF32 q) →
      (roundF32 q).getLsbD 0 = false)

/-- R821, R823: RING_PUSH appends while there is room; on a full ring DropOldest drops the oldest frame and counts it,
and Block leaves the ring and puts the push back at the head of the waiting events. -/
def Obligations.RingPushAppendsDropsOrHolds : Prop :=
  ∀ s : State,
    (s.ring.rb.length < s.params.rbCap.val →
      exec .evtRingPush s = .next { s with ring := { s.ring with rb := s.ring.rb ++ [s.args.push] } }) ∧
    (s.params.rbCap.val ≤ s.ring.rb.length → s.params.rbPolicy = .dropOldest →
      exec .evtRingPush s =
        .next { s with ring := { s.ring with rb := s.ring.rb.tail ++ [s.args.push], dropped := s.ring.dropped + 1 } }) ∧
    (s.params.rbCap.val ≤ s.ring.rb.length → s.params.rbPolicy = .block →
      exec .evtRingPush s =
        .next { s with events := { word := 0xCD000000, arg := .output s.args.push } :: s.events })

/-- R822: RING_POP, the word 0x87000000 | (pad << 16) | count on SINK, refused ERR_RESERVED_BIT if ARG8[7:1] is not 0,
returns the oldest min(count, length) frames, padded with silence to count if PAD is 1, removes them, and counts an
under-run exactly when fewer real frames than asked were there. It changes nothing else. -/
def Obligations.RingPopReturnsOldestAndPads : Prop :=
  ∀ (pad : Bool) (count : Half) (s : State),
    decode .sink (0x87#8 ++ 0#7 ++ BitVec.ofBool pad ++ count) = .instr (.ringPop pad count) ∧
    (∀ top : BitVec 7, top ≠ 0 →
      decode .sink (0x87#8 ++ top ++ BitVec.ofBool pad ++ count) = .refused .reservedBit) ∧
    ∃ (t : State) (fs : List Frame), exec (.ringPop pad count) s = .next t ∧
      t = { s with
        ring := { s.ring with
          rb := s.ring.rb.drop count.toNat
          underruns := s.ring.underruns + (if s.ring.rb.length < count.toNat then 1 else 0) }
        out := .frames fs :: s.out } ∧
      fs.take (min count.toNat s.ring.rb.length) = s.ring.rb.take count.toNat ∧
      fs.length = (if pad then count.toNat else min count.toNat s.ring.rb.length) ∧
      ∀ x ∈ fs.drop (min count.toNat s.ring.rb.length), x = ⟨0, 0⟩

/-- R824: frames pushed into an empty ring without overflow come back exactly, in order, by pops whose counts sum to
their number, with no drop and no under-run, under either policy. -/
def Obligations.RingRoundTripReturnsFramesInOrder : Prop :=
  ∀ (frs : List Frame) (pops : List (Bool × Half)) (s : State),
    s.ring.rb = [] → frs.length ≤ s.params.rbCap.val → (pops.map (fun c => c.2.toNat)).sum = frs.length →
    ∃ t u outs, pushAll frs s = .next t ∧ popAll pops t = .next u ∧
      u.out = outs ++ t.out ∧ framesReturned outs = frs ∧ u.ring = s.ring

/-- R823, R1031: while a push waits on a full ring under Block, the emulation agent's transition changes nothing but the
operand register; a word of the bus, the CPU, the host or an interrupt source, or a teardown, finds no taker and changes
nothing; a RING_POP that takes a frame lets the emulation agent's next transition complete the push. That such a turn
passes, instead of not coming, is the model's form of the hold (logs 8, 12, 14). -/
def Obligations.HeldPushWaitsForThePop : Prop :=
  ∀ (s : State) (fr : Frame) (es : List Event),
    s.safe = true → s.tornDown = false → s.params.rbPolicy = .block → s.params.rbCap.val = s.ring.rb.length →
    s.events = { word := 0xCD000000, arg := .output fr } :: es →
    (s.env.script = [] → step s = .next { s with args := { s.args with push := fr } }) ∧
    (∀ w p m ms, (p, m) ∈ wordMoves w → p ≠ .sink → s.env.script = m :: ms →
      step s = .next { s with env := { s.env with script := ms } }) ∧
    (∀ ms, s.env.script = .teardown :: ms → step s = .next { s with env := { s.env with script := ms } }) ∧
    (∀ w count, s.env.script = [.sink w] → decode .sink w = .instr (.ringPop false count) → 0 < count.toNat →
      ∃ t u, step s = .next t ∧ step t = .next u ∧ u.events = es ∧
        u.ring.rb = s.ring.rb.drop count.toNat ++ [fr])

/-! ## Scheduler -/

/-- R402, R901: SET_SPEED, the word 0x82000000 | m on HOST, stores the multiplier between frames; during a frame it is
refused ERR_REENTRANT, and then 0 is refused ERR_BAD_CONFIG; a refusal changes no state and goes to the host with the
word. -/
def Obligations.SetSpeedStoresOrRefuses : Prop :=
  ∀ (m : Half) (s : State),
    decode .host (0x8200#16 ++ m) = .instr (.setSpeed m) ∧
    (s.sched.inFrame = true →
      exec (.setSpeed m) s = .next { s with out := .refused .host .reentrant (0x8200#16 ++ m) :: s.out }) ∧
    (s.sched.inFrame = false → m = 0 →
      exec (.setSpeed m) s = .next { s with out := .refused .host .badConfig 0x82000000 :: s.out }) ∧
    (s.sched.inFrame = false → m ≠ 0 →
      exec (.setSpeed m) s = .next { s with sched := { s.sched with speed := m } })

/-- R1001, R1000: between frames RESET gives every register and counter its reset value and keeps the ring buffer, its
counters and the faults; during a frame it is refused ERR_REENTRANT. The value 0 of i is the model's choice (log 6).
-/
def Obligations.ResetRestoresAllButRingAndFaults : Prop :=
  ∀ s : State,
    (s.sched.inFrame = true →
      exec .reset s = .next { s with out := .refused .host .reentrant 0x80000000 :: s.out }) ∧
    (s.sched.inFrame = false →
      exec .reset s =
        .next { State.reset with
          ring := s.ring, faults := s.faults, params := s.params, seq := s.seq, events := s.events, args := s.args,
          env := s.env, out := s.out, tornDown := s.tornDown })

/-- R401: RUN_FRAME is refused ERR_REENTRANT during a frame; otherwise it begins one: in_frame 1, did_render 0, i 0,
and the budget of the multiplier then held. -/
def Obligations.RunFrameBeginsOneFrame : Prop :=
  ∀ s : State,
    (s.sched.inFrame = true →
      exec .runFrame s = .next { s with out := .refused .host .reentrant 0x81000000 :: s.out }) ∧
    (s.sched.inFrame = false →
      ∃ t, exec .runFrame s = .next t ∧
        t = { s with
          sched := { s.sched with inFrame := true, didRender := false, i := 0 }
          seq := { s.seq with phase := .carry, budget := 280896 * s.sched.speed.toNat } })

/-- R401, R433: in every transition of the machine the place of RUN_FRAME stays consistent (in_frame, the budget of the
multiplier held, i within it, the block not torn down in a frame); in a frame, i stays or grows by one, and the frame ends only with i
at exactly FRAME_CYCLES times the multiplier, returning did_render; and where no event waits and no agent outside
moves, the transition is the one of R401's loops: a carried TICK or the TICK of a fanned pass, and then i one higher; a
PASS, whose n and fan are then used from k = 0; one tick of a Stopped pass, i one higher with no event; or carry_ticks
left at n - k of a fanned pass and at 0 of a Stopped one. That no teardown comes in a frame, here and in frameOk, is the
model's choice (log 14), and so is that the loops are transitions whose place stands in the state (log 17). -/
def Obligations.FrameConsumesExactlyItsBudget : Prop :=
  ∀ s t : State, s.frameOk → step s = .next t →
    t.frameOk ∧
    (s.sched.inFrame = true →
      t.tornDown = false ∧
      (t.sched.i = s.sched.i ∨ t.sched.i = s.sched.i + 1) ∧
      (t.sched.inFrame = false →
        s.sched.i = 280896 * s.sched.speed.toNat ∧ t.sched.i = s.sched.i ∧
        t.out = .frameDone s.sched.didRender :: s.out) ∧
      (s.safe = true → s.env.script = [] → s.events = [] → frameLoop s t))

/-- R401, R438, R946: under DropOldest a frame in progress comes to its end, whatever the oracles answer and whatever
words the other agents present meanwhile: it stays in progress until then, and ends with i at exactly FRAME_CYCLES times
the multiplier and did_render returned, so no command cancels it. That a teardown in the script does not end it either
is the model's choice (log 14). -/
def Obligations.FrameTerminatesUnderDropOldest : Prop :=
  ∀ s : State, s.safe = true → s.frameOk → s.sched.inFrame = true → s.params.rbPolicy = .dropOldest →
    ∃ k t, Host.Core.run Sys2Proof.core k s = .next t ∧ t.sched.inFrame = false ∧
      t.sched.i = 280896 * s.sched.speed.toNat ∧
      (∃ didRender sent, t.out = .frameDone didRender :: sent) ∧
      ∀ j < k, ∃ u : State, Host.Core.run Sys2Proof.core j s = .next u ∧ u.sched.inFrame = true

/-- R411, R412, R420, R434: a pass is steps 1 to 3, and then, on a CPU that is not Stopped, step 4: the DMA engine is
asked once, CPU.Step is called exactly if the CPU is Running after the DMA unit, and max(1, d + c) ticks are charged,
fanned out; the words issued in the calls act as anywhere else, and the sink's words fall between them (R222, log 22).
CPU.RaiseInterrupt is sent exactly when the level is 1. A pass with an enabled flag set, on a CPU that is not Running
and does not wait or waits for such a flag, is the pass of a Running CPU; the level is IME and pending, and its rising
edge is counted once; every pass charges at least one tick; a Stopped pass charges one, fans out none, asks no oracle
and changes nothing but the interrupt level; and no pass changes what only a tick, the sink or the host changes, but for
the frames that the sink's words inside its calls take. -/
def Obligations.PassWakesSignalsAndCharges : Prop :=
  ∀ s : State,
    (s.irq.ie &&& s.irq.flags ≠ 0 → s.sched.halt ≠ .running →
      (s.sched.waitActive = false ∨ s.irq.ie &&& s.irq.flags &&& s.sched.waitMask ≠ 0) →
      exec .evtPass s = exec .evtPass { s with sched := { s.sched with halt := .running, waitActive := false } }) ∧
    ((wokenAndSignalled s).sched.halt = .stopped →
      exec .evtPass s =
        .next { wokenAndSignalled s with seq := { s.seq with n := 1, fan := false } }) ∧
    ((wokenAndSignalled s).sched.halt ≠ .stopped → s.invariants = true →
      exec .evtPass s = .next (stepFour (wokenAndSignalled s))) ∧
    ∃ t, exec .evtPass s = .next t ∧
      t.sched.irqLine = (s.irq.ime && decide (s.irq.ie &&& s.irq.flags ≠ 0)) ∧
      t.sched.irqEdges = s.sched.irqEdges + (if t.sched.irqLine = true ∧ s.sched.irqLine = false then 1 else 0) ∧
      1 ≤ t.seq.n ∧
      (s.sched.halt = .stopped → s.irq.ie &&& s.irq.flags = 0 →
        t = { s with sched := { s.sched with irqLine := false }, seq := { s.seq with n := 1, fan := false } }) ∧
      (s.sched.halt ≠ .stopped → t.seq.fan = true) ∧
      t = { t with
        sched := { t.sched with
          speed := s.sched.speed, inFrame := s.sched.inFrame, i := s.sched.i, carry := s.sched.carry
          didRender := s.sched.didRender }
        apu := { t.apu with
          phase := s.apu.phase, fsCounter := s.apu.fsCounter, fsStep := s.apu.fsStep, audioWait := s.apu.audioWait }
        fifoA := { t.fifoA with latch := s.fifoA.latch, requests := s.fifoA.requests }
        fifoB := { t.fifoB with latch := s.fifoB.latch, requests := s.fifoB.requests }
        resampler := s.resampler, faults := s.faults, params := s.params
        seq := { t.seq with phase := s.seq.phase, budget := s.seq.budget, k := s.seq.k }
        events := s.events, args := s.args, tornDown := s.tornDown } ∧
      (t.ring.dropped = s.ring.dropped ∧ ∃ taken, s.ring.rb = taken ++ t.ring.rb) ∧
      ∀ m : Fin 4, (t.timer m).overflows = (s.timer m).overflows

/-- R435: with a wait active whose mask meets no pending flag, a pass leaves the CPU halted and steps no instruction,
whatever the DMA engine does. -/
def Obligations.InterruptWaitHoldsThroughAPass : Prop :=
  ∀ s : State, s.sched.halt = .halted → s.sched.waitActive = true →
    s.irq.ie &&& s.irq.flags &&& s.sched.waitMask = 0 →
    ∃ t, exec .evtPass s = .next t ∧ t.sched.halt = .halted ∧ t.sched.waitActive = true ∧ t.env.cpu = s.env.cpu

/-- R430, R431, R1026: in a tick the timers come first and then the video, one Video.Tick answer for each tick, whose
interrupt requests act, with the sink's words between them (R222, log 22); on a frame end in the last sub-frame, floor(i / FRAME_CYCLES) = speed_multiplier - 1, and only
then, Video.Render is called and did_render set. Then the channels, stepped on every 4th tick while master_en is 1, and
then the sample: on every 512th tick a MIX that hears the channels and latches of that same tick. A tick changes
nothing else. That the MIX's pushes stand in the waiting events after the tick, with the ring as those words of the
sink left it and audio_wait already 511, is the model's form of the tick (log 7). -/
def Obligations.TickStepsChannelsAndMixesOnTime : Prop :=
  ∀ s : State, ∃ t u, exec .evtTick s = .next t ∧ exec .evtTimerTick s = .next u ∧
    let answer := s.env.video.headD s.env.videoRest
    let v := videoIssued answer.issues { u with env := { s.env with video := s.env.video.tail } }
    let shown := answer.frameEnd && decide (((s.sched.i / 280896 : Nat) : Int) = (s.sched.speed.toNat : Int) - 1)
    t = { v with
      sched := { s.sched with didRender := s.sched.didRender || shown }
      out := if shown then .render :: v.out else v.out
      apu := { s.apu with
        phase := s.apu.phase + 1, audioWait := t.apu.audioWait, fsCounter := t.apu.fsCounter, fsStep := t.apu.fsStep }
      ch1 := t.ch1, sweep := t.sweep, ch2 := t.ch2, wave := t.wave, noise := t.noise, resampler := t.resampler
      events := t.events, args := { s.args with mixL := t.args.mixL, mixR := t.args.mixR } } ∧
    (∀ b, s.irq.flags.getLsbD b = true → t.irq.flags.getLsbD b = true) ∧
    (if s.apu.phase = 3 ∧ s.apu.masterEn = true then
       ∃ v, exec .evtApuStep s = .next v ∧ t.ch1 = v.ch1 ∧ t.sweep = v.sweep ∧ t.ch2 = v.ch2 ∧ t.wave = v.wave ∧
         t.noise = v.noise ∧ t.apu.fsCounter = v.apu.fsCounter ∧ t.apu.fsStep = v.apu.fsStep
     else t.ch1 = s.ch1 ∧ t.sweep = s.sweep ∧ t.ch2 = s.ch2 ∧ t.wave = s.wave ∧ t.noise = s.noise ∧
       t.apu.fsCounter = s.apu.fsCounter ∧ t.apu.fsStep = s.apu.fsStep) ∧
    (if s.apu.audioWait = 0 then
       t.apu.audioWait = 511 ∧
       exec .evtMix { t with resampler := s.resampler, events := s.events, args := s.args } = .next t
     else t.apu.audioWait = s.apu.audioWait - 1 ∧ t.resampler = s.resampler ∧ t.events = s.events ∧ t.args = s.args)

/-- R436: but for what is rendered, a tick does not depend on the speed multiplier. -/
def Obligations.TickDoesNotDependOnSpeed : Prop :=
  ∀ (s : State) (m : Half),
    ∃ t u, exec .evtTick s = .next t ∧ exec .evtTick { s with sched := { s.sched with speed := m } } = .next u ∧
      speedless t = speedless u

/-! ## The machine -/

/-- R305, R900, R827: a step takes the next word from where it stands, an external one from the script and an event from
the waiting events with its operand loaded, and performs exactly the instruction the decoder reads from it; where the
decoder refuses an external word, nothing changes, the code and the word go to the issuing port, and the issuer
continues. After teardown, and while a push holds, this is said of the sink alone (R823, R827). -/
def Obligations.StepPerformsTheDecodedInstruction : Prop :=
  ∀ (s : State) (w : Word) (i : Instr), s.safe = true →
    (∀ p m ms, (p, m) ∈ wordMoves w → s.env.script = m :: ms → (s.tornDown = true ∨ holding s → p = .sink) →
      (decode p w = .instr i → step s = exec i { s with env := { s.env with script := ms } }) ∧
      ∀ e, decode p w = .refused e →
        step s = .next { s with env := { s.env with script := ms }, out := .refused p e w :: s.out }) ∧
    (∀ arg es, s.tornDown = false → s.env.script = [] → s.events = { word := w, arg := arg } :: es →
      decode .internal w = .instr i → step s = exec i ({ s with events := es }.loadArg arg))

/-- R900 (c), R115: a state outside the invariants records FAULT_INVARIANT and nothing else; a recorded fault stops
the machine for good, and no transition clears one. -/
def Obligations.FaultsAreRecordedAndFinal : Prop :=
  ∀ s : State,
    (s.faults = [] → s.invariants = false → step s = .next { s with faults := [.invariant] }) ∧
    (s.faults ≠ [] → step s = .fault (.faulted s.faults)) ∧
    (∀ t, step s = .next t → s.invariants = true → t.faults = s.faults)

/-- R902: every transition preserves the invariants that FAULT_INVARIANT guards, so the fault is unreachable; and it
keeps the ranges of the countdowns (R107, R109, R110), the canonical form of wave RAM, and a resampler phase of at
least 0 (R112). -/
def Obligations.EveryTransitionKeepsTheInvariants : Prop :=
  ∀ s t : State, step s = .next t →
    (s.safe = true → t.safe = true) ∧ (s.rangesOk = true → t.rangesOk = true)

/-- R1000, R1002: the state after construction meets the invariants, and every field of R102 to R113 and R115 has the
reset value that R1000 gives, but for i, which R1000 leaves undefined (log 6); every register reads 0x0000 but SOUNDBIAS,
and every byte of both banks of wave RAM is 0x00. -/
def Obligations.ResetStateMeetsTheInvariants : Prop :=
  let envelope : Envelope := { step := 0, dir := false, init := 0, timer := 0, volume := 0 }
  let square : Square :=
    { duty := 0, env := envelope, freq := 0, lenEn := false, enabled := false, dutyPos := 0, freqTimer := 0, length := 0 }
  let fifo : Fifo :=
    { queue := [], latch := 0, requests := 0, vol := false, enR := false, enL := false, timer := false }
  State.reset.safe = true ∧ State.reset.rangesOk = true ∧ State.reset.frameOk ∧
  (∀ r : Reg, readValue r State.reset = if r = .soundbias then 0x0200 else 0) ∧
  (∀ (bank : Bool) (k : Fin 16), State.reset.wave.byte bank k.val = 0) ∧
  State.reset.sched =
    { halt := .running, waitActive := false, waitMask := 0, speed := 1, inFrame := false, i := State.reset.sched.i
      carry := 0, didRender := false, irqLine := false, irqEdges := 0 } ∧
  State.reset.irq = { ie := 0, flags := 0, ime := false } ∧
  (∀ n : Fin 4, State.reset.timer n =
    { counter := 0, reload := 0, prescaler := 0, cascade := false, irqEn := false, enable := false, preAcc := 0
      overflows := 0 }) ∧
  State.reset.apu =
    { phase := 0, fsCounter := 0, fsStep := 0, audioWait := 511, masterEn := false, volR := 0, volL := 0, enR := 0
      enL := 0, psgRatio := 0, bias := 0x200, resolution := 0 } ∧
  State.reset.ch1 = square ∧ State.reset.sweep = { shift := 0, dir := false, time := 0, timer := 0 } ∧
  State.reset.ch2 = square ∧
  State.reset.wave =
    { dim := false, bank := false, play := false, vol := 0, force := false, freq := 0, lenEn := false, enabled := false
      pos := 0, freqTimer := 0, length := 0, ram := State.reset.wave.ram } ∧
  State.reset.noise =
    { env := envelope, r := 0, width := false, s := 0, lenEn := false, enabled := false, lfsr := 0, out := false
      freqTimer := 0, length := 0 } ∧
  State.reset.fifoA = fifo ∧ State.reset.fifoB = fifo ∧
  State.reset.resampler = { prevL := 0, prevR := 0, phase := 0 } ∧
  State.reset.ring = { rb := [], dropped := 0, underruns := 0 } ∧ State.reset.faults = []

/-- R9, R402, R1001: no transition of the machine changes the open parameters, and the multiplier changes only between
frames, when the host presents SET_SPEED, to its operand, or RESET, to 1. -/
def Obligations.ParametersAndSpeedChangeOnlyAsTheRulesSay : Prop :=
  ∀ s t : State, step s = .next t →
    t.params = s.params ∧
    (t.sched.speed ≠ s.sched.speed →
      s.sched.inFrame = false ∧ s.tornDown = false ∧
      ∃ w ms, s.env.script = .host w :: ms ∧
        (w = 0x80000000 ∧ t.sched.speed = 1 ∨ ∃ m : Half, w = 0x8200#16 ++ m ∧ m ≠ 0 ∧ t.sched.speed = m))

/-- R222, R437: under DropOldest two machines that differ only in their ring buffer and its counters, and in the words
that the sink presents inside the oracles' calls, move alike: the sink can influence nothing but the ring. -/
def Obligations.SinkInfluencesOnlyTheRing : Prop :=
  ∀ s u t : State, blind s = blind u → s.params.rbPolicy = .dropOldest →
    s.ring.rb.length ≤ s.params.rbCap.val → u.ring.rb.length ≤ u.params.rbCap.val →
    step s = .next t → ∃ v, step u = .next v ∧ blind t = blind v

/-- R825: under DropOldest a push adds one frame to the ring or to the dropped count, under Block to the ring or to
nothing; a pop moves frames from the ring to its answer; a PASS or a TICK moves out at most what the sink's words inside
its calls take (log 22), and drops none; nothing else touches the ring. That a push under Block may leave all as it was
is the model's form of the hold (log 8), and that TICK, MIX and RESAMPLE push nothing themselves is because their pushes
are events of their own (log 7). -/
def Obligations.RingFramesAreConserved : Prop :=
  ∀ (i : Instr) (s t : State), exec i s = .next t →
    (i = .evtRingPush → s.params.rbPolicy = .dropOldest →
      t.ring.rb.length + t.ring.dropped = s.ring.rb.length + s.ring.dropped + 1) ∧
    (i = .evtRingPush → s.params.rbPolicy = .block →
      t.ring.dropped = s.ring.dropped ∧ (t.ring.rb = s.ring.rb ∨ t.ring.rb = s.ring.rb ++ [s.args.push])) ∧
    (∀ pad count, i = .ringPop pad count →
      t.ring.dropped = s.ring.dropped ∧ s.ring.rb = s.ring.rb.take count.toNat ++ t.ring.rb) ∧
    (i = .evtPass ∨ i = .evtTick →
      t.ring.dropped = s.ring.dropped ∧ ∃ taken, s.ring.rb = taken ++ t.ring.rb) ∧
    (i ≠ .evtRingPush → (∀ pad count, i ≠ .ringPop pad count) → i ≠ .evtPass → i ≠ .evtTick → t.ring = s.ring)

/-- R900, R203, R222, R940-R943: in a state of the invariants, what happens inside a call of CPU.Step, DMA.RunOne or
Video.Tick acts as it does anywhere else: each instruction of the BUS, CPU and IRQSRC ports, and of the SINK port, whose
words fall between the transactions of the call, as exec performs it; each word as its decoded instruction or its
refusal; and a bus access as the words of its split, in order, with the sink's words between its two transactions and
the value that a read assembles. Which words the model lets an agent issue stands in log 18, and how the sink's words
come to stand in a call in log 22. -/
def Obligations.IssuedWordsActAsAnywhereElse : Prop :=
  ∀ s : State, s.invariants = true →
    (∀ i : Instr, i.port = .bus ∨ i.port = .cpu ∨ i.port = .irqsrc ∨ i.port = .sink →
      exec i s = .next (agentExec i s)) ∧
    (∀ x : Issue, performIssue s x = issued x s) ∧
    ∀ xs : List Issue, performIssues xs s = issuedAll xs s
end

