-- ==== Sys2Proof/Laws/State.lean ====
section
/-! SUPPORT. What each named update of State does to each field, true by definition, so that no proof unfolds a
record update. -/

namespace Sys2Proof.Machine

/-! ### emit -/

@[simp] theorem State.emit_sched (s : State) (o : Output) : (s.emit o).sched = s.sched := rfl
@[simp] theorem State.emit_irq (s : State) (o : Output) : (s.emit o).irq = s.irq := rfl
@[simp] theorem State.emit_timers (s : State) (o : Output) : (s.emit o).timers = s.timers := rfl
@[simp] theorem State.emit_apu (s : State) (o : Output) : (s.emit o).apu = s.apu := rfl
@[simp] theorem State.emit_ch1 (s : State) (o : Output) : (s.emit o).ch1 = s.ch1 := rfl
@[simp] theorem State.emit_sweep (s : State) (o : Output) : (s.emit o).sweep = s.sweep := rfl
@[simp] theorem State.emit_ch2 (s : State) (o : Output) : (s.emit o).ch2 = s.ch2 := rfl
@[simp] theorem State.emit_wave (s : State) (o : Output) : (s.emit o).wave = s.wave := rfl
@[simp] theorem State.emit_noise (s : State) (o : Output) : (s.emit o).noise = s.noise := rfl
@[simp] theorem State.emit_fifoA (s : State) (o : Output) : (s.emit o).fifoA = s.fifoA := rfl
@[simp] theorem State.emit_fifoB (s : State) (o : Output) : (s.emit o).fifoB = s.fifoB := rfl
@[simp] theorem State.emit_resampler (s : State) (o : Output) : (s.emit o).resampler = s.resampler := rfl
@[simp] theorem State.emit_ring (s : State) (o : Output) : (s.emit o).ring = s.ring := rfl
@[simp] theorem State.emit_faults (s : State) (o : Output) : (s.emit o).faults = s.faults := rfl
@[simp] theorem State.emit_params (s : State) (o : Output) : (s.emit o).params = s.params := rfl
@[simp] theorem State.emit_seq (s : State) (o : Output) : (s.emit o).seq = s.seq := rfl
@[simp] theorem State.emit_events (s : State) (o : Output) : (s.emit o).events = s.events := rfl
@[simp] theorem State.emit_args (s : State) (o : Output) : (s.emit o).args = s.args := rfl
@[simp] theorem State.emit_env (s : State) (o : Output) : (s.emit o).env = s.env := rfl
@[simp] theorem State.emit_out (s : State) (o : Output) : (s.emit o).out = o :: s.out := rfl
@[simp] theorem State.emit_tornDown (s : State) (o : Output) : (s.emit o).tornDown = s.tornDown := rfl

/-! ### refuse -/

@[simp] theorem State.refuse_sched (s : State) (p : Port) (e : ErrCode) (w : Word) : (s.refuse p e w).sched = s.sched := rfl
@[simp] theorem State.refuse_irq (s : State) (p : Port) (e : ErrCode) (w : Word) : (s.refuse p e w).irq = s.irq := rfl
@[simp] theorem State.refuse_timers (s : State) (p : Port) (e : ErrCode) (w : Word) : (s.refuse p e w).timers = s.timers := rfl
@[simp] theorem State.refuse_apu (s : State) (p : Port) (e : ErrCode) (w : Word) : (s.refuse p e w).apu = s.apu := rfl
@[simp] theorem State.refuse_ch1 (s : State) (p : Port) (e : ErrCode) (w : Word) : (s.refuse p e w).ch1 = s.ch1 := rfl
@[simp] theorem State.refuse_sweep (s : State) (p : Port) (e : ErrCode) (w : Word) : (s.refuse p e w).sweep = s.sweep := rfl
@[simp] theorem State.refuse_ch2 (s : State) (p : Port) (e : ErrCode) (w : Word) : (s.refuse p e w).ch2 = s.ch2 := rfl
@[simp] theorem State.refuse_wave (s : State) (p : Port) (e : ErrCode) (w : Word) : (s.refuse p e w).wave = s.wave := rfl
@[simp] theorem State.refuse_noise (s : State) (p : Port) (e : ErrCode) (w : Word) : (s.refuse p e w).noise = s.noise := rfl
@[simp] theorem State.refuse_fifoA (s : State) (p : Port) (e : ErrCode) (w : Word) : (s.refuse p e w).fifoA = s.fifoA := rfl
@[simp] theorem State.refuse_fifoB (s : State) (p : Port) (e : ErrCode) (w : Word) : (s.refuse p e w).fifoB = s.fifoB := rfl
@[simp] theorem State.refuse_resampler (s : State) (p : Port) (e : ErrCode) (w : Word) : (s.refuse p e w).resampler = s.resampler := rfl
@[simp] theorem State.refuse_ring (s : State) (p : Port) (e : ErrCode) (w : Word) : (s.refuse p e w).ring = s.ring := rfl
@[simp] theorem State.refuse_faults (s : State) (p : Port) (e : ErrCode) (w : Word) : (s.refuse p e w).faults = s.faults := rfl
@[simp] theorem State.refuse_params (s : State) (p : Port) (e : ErrCode) (w : Word) : (s.refuse p e w).params = s.params := rfl
@[simp] theorem State.refuse_seq (s : State) (p : Port) (e : ErrCode) (w : Word) : (s.refuse p e w).seq = s.seq := rfl
@[simp] theorem State.refuse_events (s : State) (p : Port) (e : ErrCode) (w : Word) : (s.refuse p e w).events = s.events := rfl
@[simp] theorem State.refuse_args (s : State) (p : Port) (e : ErrCode) (w : Word) : (s.refuse p e w).args = s.args := rfl
@[simp] theorem State.refuse_env (s : State) (p : Port) (e : ErrCode) (w : Word) : (s.refuse p e w).env = s.env := rfl
@[simp] theorem State.refuse_out (s : State) (p : Port) (e : ErrCode) (w : Word) : (s.refuse p e w).out = .refused p e w :: s.out := rfl
@[simp] theorem State.refuse_tornDown (s : State) (p : Port) (e : ErrCode) (w : Word) : (s.refuse p e w).tornDown = s.tornDown := rfl

/-! ### readResult -/

@[simp] theorem State.readResult_sched (s : State) (v : Half) : (s.readResult v).sched = s.sched := rfl
@[simp] theorem State.readResult_irq (s : State) (v : Half) : (s.readResult v).irq = s.irq := rfl
@[simp] theorem State.readResult_timers (s : State) (v : Half) : (s.readResult v).timers = s.timers := rfl
@[simp] theorem State.readResult_apu (s : State) (v : Half) : (s.readResult v).apu = s.apu := rfl
@[simp] theorem State.readResult_ch1 (s : State) (v : Half) : (s.readResult v).ch1 = s.ch1 := rfl
@[simp] theorem State.readResult_sweep (s : State) (v : Half) : (s.readResult v).sweep = s.sweep := rfl
@[simp] theorem State.readResult_ch2 (s : State) (v : Half) : (s.readResult v).ch2 = s.ch2 := rfl
@[simp] theorem State.readResult_wave (s : State) (v : Half) : (s.readResult v).wave = s.wave := rfl
@[simp] theorem State.readResult_noise (s : State) (v : Half) : (s.readResult v).noise = s.noise := rfl
@[simp] theorem State.readResult_fifoA (s : State) (v : Half) : (s.readResult v).fifoA = s.fifoA := rfl
@[simp] theorem State.readResult_fifoB (s : State) (v : Half) : (s.readResult v).fifoB = s.fifoB := rfl
@[simp] theorem State.readResult_resampler (s : State) (v : Half) : (s.readResult v).resampler = s.resampler := rfl
@[simp] theorem State.readResult_ring (s : State) (v : Half) : (s.readResult v).ring = s.ring := rfl
@[simp] theorem State.readResult_faults (s : State) (v : Half) : (s.readResult v).faults = s.faults := rfl
@[simp] theorem State.readResult_params (s : State) (v : Half) : (s.readResult v).params = s.params := rfl
@[simp] theorem State.readResult_seq (s : State) (v : Half) : (s.readResult v).seq = s.seq := rfl
@[simp] theorem State.readResult_events (s : State) (v : Half) : (s.readResult v).events = s.events := rfl
@[simp] theorem State.readResult_args (s : State) (v : Half) : (s.readResult v).args = s.args := rfl
@[simp] theorem State.readResult_env (s : State) (v : Half) : (s.readResult v).env = s.env := rfl
@[simp] theorem State.readResult_out (s : State) (v : Half) : (s.readResult v).out = .readData v :: s.out := rfl
@[simp] theorem State.readResult_tornDown (s : State) (v : Half) : (s.readResult v).tornDown = s.tornDown := rfl

/-! ### setTimer -/

@[simp] theorem State.setTimer_sched (s : State) (n : Fin 4) (t : Timer) : (s.setTimer n t).sched = s.sched := rfl
@[simp] theorem State.setTimer_irq (s : State) (n : Fin 4) (t : Timer) : (s.setTimer n t).irq = s.irq := rfl
@[simp] theorem State.setTimer_timers (s : State) (n : Fin 4) (t : Timer) : (s.setTimer n t).timers = s.timers.set n.val t n.isLt := rfl
@[simp] theorem State.setTimer_apu (s : State) (n : Fin 4) (t : Timer) : (s.setTimer n t).apu = s.apu := rfl
@[simp] theorem State.setTimer_ch1 (s : State) (n : Fin 4) (t : Timer) : (s.setTimer n t).ch1 = s.ch1 := rfl
@[simp] theorem State.setTimer_sweep (s : State) (n : Fin 4) (t : Timer) : (s.setTimer n t).sweep = s.sweep := rfl
@[simp] theorem State.setTimer_ch2 (s : State) (n : Fin 4) (t : Timer) : (s.setTimer n t).ch2 = s.ch2 := rfl
@[simp] theorem State.setTimer_wave (s : State) (n : Fin 4) (t : Timer) : (s.setTimer n t).wave = s.wave := rfl
@[simp] theorem State.setTimer_noise (s : State) (n : Fin 4) (t : Timer) : (s.setTimer n t).noise = s.noise := rfl
@[simp] theorem State.setTimer_fifoA (s : State) (n : Fin 4) (t : Timer) : (s.setTimer n t).fifoA = s.fifoA := rfl
@[simp] theorem State.setTimer_fifoB (s : State) (n : Fin 4) (t : Timer) : (s.setTimer n t).fifoB = s.fifoB := rfl
@[simp] theorem State.setTimer_resampler (s : State) (n : Fin 4) (t : Timer) : (s.setTimer n t).resampler = s.resampler := rfl
@[simp] theorem State.setTimer_ring (s : State) (n : Fin 4) (t : Timer) : (s.setTimer n t).ring = s.ring := rfl
@[simp] theorem State.setTimer_faults (s : State) (n : Fin 4) (t : Timer) : (s.setTimer n t).faults = s.faults := rfl
@[simp] theorem State.setTimer_params (s : State) (n : Fin 4) (t : Timer) : (s.setTimer n t).params = s.params := rfl
@[simp] theorem State.setTimer_seq (s : State) (n : Fin 4) (t : Timer) : (s.setTimer n t).seq = s.seq := rfl
@[simp] theorem State.setTimer_events (s : State) (n : Fin 4) (t : Timer) : (s.setTimer n t).events = s.events := rfl
@[simp] theorem State.setTimer_args (s : State) (n : Fin 4) (t : Timer) : (s.setTimer n t).args = s.args := rfl
@[simp] theorem State.setTimer_env (s : State) (n : Fin 4) (t : Timer) : (s.setTimer n t).env = s.env := rfl
@[simp] theorem State.setTimer_out (s : State) (n : Fin 4) (t : Timer) : (s.setTimer n t).out = s.out := rfl
@[simp] theorem State.setTimer_tornDown (s : State) (n : Fin 4) (t : Timer) : (s.setTimer n t).tornDown = s.tornDown := rfl

/-! ### setFlags -/

@[simp] theorem State.setFlags_sched (s : State) (b : Half) : (s.setFlags b).sched = s.sched := rfl
@[simp] theorem State.setFlags_irq (s : State) (b : Half) : (s.setFlags b).irq = { s.irq with flags := s.irq.flags ||| b } := rfl
@[simp] theorem State.setFlags_timers (s : State) (b : Half) : (s.setFlags b).timers = s.timers := rfl
@[simp] theorem State.setFlags_apu (s : State) (b : Half) : (s.setFlags b).apu = s.apu := rfl
@[simp] theorem State.setFlags_ch1 (s : State) (b : Half) : (s.setFlags b).ch1 = s.ch1 := rfl
@[simp] theorem State.setFlags_sweep (s : State) (b : Half) : (s.setFlags b).sweep = s.sweep := rfl
@[simp] theorem State.setFlags_ch2 (s : State) (b : Half) : (s.setFlags b).ch2 = s.ch2 := rfl
@[simp] theorem State.setFlags_wave (s : State) (b : Half) : (s.setFlags b).wave = s.wave := rfl
@[simp] theorem State.setFlags_noise (s : State) (b : Half) : (s.setFlags b).noise = s.noise := rfl
@[simp] theorem State.setFlags_fifoA (s : State) (b : Half) : (s.setFlags b).fifoA = s.fifoA := rfl
@[simp] theorem State.setFlags_fifoB (s : State) (b : Half) : (s.setFlags b).fifoB = s.fifoB := rfl
@[simp] theorem State.setFlags_resampler (s : State) (b : Half) : (s.setFlags b).resampler = s.resampler := rfl
@[simp] theorem State.setFlags_ring (s : State) (b : Half) : (s.setFlags b).ring = s.ring := rfl
@[simp] theorem State.setFlags_faults (s : State) (b : Half) : (s.setFlags b).faults = s.faults := rfl
@[simp] theorem State.setFlags_params (s : State) (b : Half) : (s.setFlags b).params = s.params := rfl
@[simp] theorem State.setFlags_seq (s : State) (b : Half) : (s.setFlags b).seq = s.seq := rfl
@[simp] theorem State.setFlags_events (s : State) (b : Half) : (s.setFlags b).events = s.events := rfl
@[simp] theorem State.setFlags_args (s : State) (b : Half) : (s.setFlags b).args = s.args := rfl
@[simp] theorem State.setFlags_env (s : State) (b : Half) : (s.setFlags b).env = s.env := rfl
@[simp] theorem State.setFlags_out (s : State) (b : Half) : (s.setFlags b).out = s.out := rfl
@[simp] theorem State.setFlags_tornDown (s : State) (b : Half) : (s.setFlags b).tornDown = s.tornDown := rfl

/-! ### enqueue -/

@[simp] theorem State.enqueue_sched (s : State) (es : List Event) : (s.enqueue es).sched = s.sched := rfl
@[simp] theorem State.enqueue_irq (s : State) (es : List Event) : (s.enqueue es).irq = s.irq := rfl
@[simp] theorem State.enqueue_timers (s : State) (es : List Event) : (s.enqueue es).timers = s.timers := rfl
@[simp] theorem State.enqueue_apu (s : State) (es : List Event) : (s.enqueue es).apu = s.apu := rfl
@[simp] theorem State.enqueue_ch1 (s : State) (es : List Event) : (s.enqueue es).ch1 = s.ch1 := rfl
@[simp] theorem State.enqueue_sweep (s : State) (es : List Event) : (s.enqueue es).sweep = s.sweep := rfl
@[simp] theorem State.enqueue_ch2 (s : State) (es : List Event) : (s.enqueue es).ch2 = s.ch2 := rfl
@[simp] theorem State.enqueue_wave (s : State) (es : List Event) : (s.enqueue es).wave = s.wave := rfl
@[simp] theorem State.enqueue_noise (s : State) (es : List Event) : (s.enqueue es).noise = s.noise := rfl
@[simp] theorem State.enqueue_fifoA (s : State) (es : List Event) : (s.enqueue es).fifoA = s.fifoA := rfl
@[simp] theorem State.enqueue_fifoB (s : State) (es : List Event) : (s.enqueue es).fifoB = s.fifoB := rfl
@[simp] theorem State.enqueue_resampler (s : State) (es : List Event) : (s.enqueue es).resampler = s.resampler := rfl
@[simp] theorem State.enqueue_ring (s : State) (es : List Event) : (s.enqueue es).ring = s.ring := rfl
@[simp] theorem State.enqueue_faults (s : State) (es : List Event) : (s.enqueue es).faults = s.faults := rfl
@[simp] theorem State.enqueue_params (s : State) (es : List Event) : (s.enqueue es).params = s.params := rfl
@[simp] theorem State.enqueue_seq (s : State) (es : List Event) : (s.enqueue es).seq = s.seq := rfl
@[simp] theorem State.enqueue_events (s : State) (es : List Event) : (s.enqueue es).events = es ++ s.events := rfl
@[simp] theorem State.enqueue_args (s : State) (es : List Event) : (s.enqueue es).args = s.args := rfl
@[simp] theorem State.enqueue_env (s : State) (es : List Event) : (s.enqueue es).env = s.env := rfl
@[simp] theorem State.enqueue_out (s : State) (es : List Event) : (s.enqueue es).out = s.out := rfl
@[simp] theorem State.enqueue_tornDown (s : State) (es : List Event) : (s.enqueue es).tornDown = s.tornDown := rfl

/-! ### passResult -/

@[simp] theorem State.passResult_sched (s : State) (n : Nat) (fan : Bool) : (s.passResult n fan).sched = s.sched := rfl
@[simp] theorem State.passResult_irq (s : State) (n : Nat) (fan : Bool) : (s.passResult n fan).irq = s.irq := rfl
@[simp] theorem State.passResult_timers (s : State) (n : Nat) (fan : Bool) : (s.passResult n fan).timers = s.timers := rfl
@[simp] theorem State.passResult_apu (s : State) (n : Nat) (fan : Bool) : (s.passResult n fan).apu = s.apu := rfl
@[simp] theorem State.passResult_ch1 (s : State) (n : Nat) (fan : Bool) : (s.passResult n fan).ch1 = s.ch1 := rfl
@[simp] theorem State.passResult_sweep (s : State) (n : Nat) (fan : Bool) : (s.passResult n fan).sweep = s.sweep := rfl
@[simp] theorem State.passResult_ch2 (s : State) (n : Nat) (fan : Bool) : (s.passResult n fan).ch2 = s.ch2 := rfl
@[simp] theorem State.passResult_wave (s : State) (n : Nat) (fan : Bool) : (s.passResult n fan).wave = s.wave := rfl
@[simp] theorem State.passResult_noise (s : State) (n : Nat) (fan : Bool) : (s.passResult n fan).noise = s.noise := rfl
@[simp] theorem State.passResult_fifoA (s : State) (n : Nat) (fan : Bool) : (s.passResult n fan).fifoA = s.fifoA := rfl
@[simp] theorem State.passResult_fifoB (s : State) (n : Nat) (fan : Bool) : (s.passResult n fan).fifoB = s.fifoB := rfl
@[simp] theorem State.passResult_resampler (s : State) (n : Nat) (fan : Bool) : (s.passResult n fan).resampler = s.resampler := rfl
@[simp] theorem State.passResult_ring (s : State) (n : Nat) (fan : Bool) : (s.passResult n fan).ring = s.ring := rfl
@[simp] theorem State.passResult_faults (s : State) (n : Nat) (fan : Bool) : (s.passResult n fan).faults = s.faults := rfl
@[simp] theorem State.passResult_params (s : State) (n : Nat) (fan : Bool) : (s.passResult n fan).params = s.params := rfl
@[simp] theorem State.passResult_seq (s : State) (n : Nat) (fan : Bool) : (s.passResult n fan).seq = { s.seq with n := n, fan := fan } := rfl
@[simp] theorem State.passResult_events (s : State) (n : Nat) (fan : Bool) : (s.passResult n fan).events = s.events := rfl
@[simp] theorem State.passResult_args (s : State) (n : Nat) (fan : Bool) : (s.passResult n fan).args = s.args := rfl
@[simp] theorem State.passResult_env (s : State) (n : Nat) (fan : Bool) : (s.passResult n fan).env = s.env := rfl
@[simp] theorem State.passResult_out (s : State) (n : Nat) (fan : Bool) : (s.passResult n fan).out = s.out := rfl
@[simp] theorem State.passResult_tornDown (s : State) (n : Nat) (fan : Bool) : (s.passResult n fan).tornDown = s.tornDown := rfl

/-! ### advanceTick -/

@[simp] theorem State.advanceTick_sched (s : State) : (s.advanceTick).sched = { s.sched with i := s.sched.i + 1 } := rfl
@[simp] theorem State.advanceTick_irq (s : State) : (s.advanceTick).irq = s.irq := rfl
@[simp] theorem State.advanceTick_timers (s : State) : (s.advanceTick).timers = s.timers := rfl
@[simp] theorem State.advanceTick_apu (s : State) : (s.advanceTick).apu = s.apu := rfl
@[simp] theorem State.advanceTick_ch1 (s : State) : (s.advanceTick).ch1 = s.ch1 := rfl
@[simp] theorem State.advanceTick_sweep (s : State) : (s.advanceTick).sweep = s.sweep := rfl
@[simp] theorem State.advanceTick_ch2 (s : State) : (s.advanceTick).ch2 = s.ch2 := rfl
@[simp] theorem State.advanceTick_wave (s : State) : (s.advanceTick).wave = s.wave := rfl
@[simp] theorem State.advanceTick_noise (s : State) : (s.advanceTick).noise = s.noise := rfl
@[simp] theorem State.advanceTick_fifoA (s : State) : (s.advanceTick).fifoA = s.fifoA := rfl
@[simp] theorem State.advanceTick_fifoB (s : State) : (s.advanceTick).fifoB = s.fifoB := rfl
@[simp] theorem State.advanceTick_resampler (s : State) : (s.advanceTick).resampler = s.resampler := rfl
@[simp] theorem State.advanceTick_ring (s : State) : (s.advanceTick).ring = s.ring := rfl
@[simp] theorem State.advanceTick_faults (s : State) : (s.advanceTick).faults = s.faults := rfl
@[simp] theorem State.advanceTick_params (s : State) : (s.advanceTick).params = s.params := rfl
@[simp] theorem State.advanceTick_seq (s : State) : (s.advanceTick).seq = s.seq := rfl
@[simp] theorem State.advanceTick_events (s : State) : (s.advanceTick).events = s.events := rfl
@[simp] theorem State.advanceTick_args (s : State) : (s.advanceTick).args = s.args := rfl
@[simp] theorem State.advanceTick_env (s : State) : (s.advanceTick).env = s.env := rfl
@[simp] theorem State.advanceTick_out (s : State) : (s.advanceTick).out = s.out := rfl
@[simp] theorem State.advanceTick_tornDown (s : State) : (s.advanceTick).tornDown = s.tornDown := rfl

/-! ### goto -/

@[simp] theorem State.goto_sched (s : State) (p : SeqPhase) : (s.goto p).sched = s.sched := rfl
@[simp] theorem State.goto_irq (s : State) (p : SeqPhase) : (s.goto p).irq = s.irq := rfl
@[simp] theorem State.goto_timers (s : State) (p : SeqPhase) : (s.goto p).timers = s.timers := rfl
@[simp] theorem State.goto_apu (s : State) (p : SeqPhase) : (s.goto p).apu = s.apu := rfl
@[simp] theorem State.goto_ch1 (s : State) (p : SeqPhase) : (s.goto p).ch1 = s.ch1 := rfl
@[simp] theorem State.goto_sweep (s : State) (p : SeqPhase) : (s.goto p).sweep = s.sweep := rfl
@[simp] theorem State.goto_ch2 (s : State) (p : SeqPhase) : (s.goto p).ch2 = s.ch2 := rfl
@[simp] theorem State.goto_wave (s : State) (p : SeqPhase) : (s.goto p).wave = s.wave := rfl
@[simp] theorem State.goto_noise (s : State) (p : SeqPhase) : (s.goto p).noise = s.noise := rfl
@[simp] theorem State.goto_fifoA (s : State) (p : SeqPhase) : (s.goto p).fifoA = s.fifoA := rfl
@[simp] theorem State.goto_fifoB (s : State) (p : SeqPhase) : (s.goto p).fifoB = s.fifoB := rfl
@[simp] theorem State.goto_resampler (s : State) (p : SeqPhase) : (s.goto p).resampler = s.resampler := rfl
@[simp] theorem State.goto_ring (s : State) (p : SeqPhase) : (s.goto p).ring = s.ring := rfl
@[simp] theorem State.goto_faults (s : State) (p : SeqPhase) : (s.goto p).faults = s.faults := rfl
@[simp] theorem State.goto_params (s : State) (p : SeqPhase) : (s.goto p).params = s.params := rfl
@[simp] theorem State.goto_seq (s : State) (p : SeqPhase) : (s.goto p).seq = { s.seq with phase := p } := rfl
@[simp] theorem State.goto_events (s : State) (p : SeqPhase) : (s.goto p).events = s.events := rfl
@[simp] theorem State.goto_args (s : State) (p : SeqPhase) : (s.goto p).args = s.args := rfl
@[simp] theorem State.goto_env (s : State) (p : SeqPhase) : (s.goto p).env = s.env := rfl
@[simp] theorem State.goto_out (s : State) (p : SeqPhase) : (s.goto p).out = s.out := rfl
@[simp] theorem State.goto_tornDown (s : State) (p : SeqPhase) : (s.goto p).tornDown = s.tornDown := rfl

/-! ### generate -/

@[simp] theorem State.generate_sched (s : State) (i : Instr) (p : SeqPhase) : (s.generate i p).sched = s.sched := rfl
@[simp] theorem State.generate_irq (s : State) (i : Instr) (p : SeqPhase) : (s.generate i p).irq = s.irq := rfl
@[simp] theorem State.generate_timers (s : State) (i : Instr) (p : SeqPhase) : (s.generate i p).timers = s.timers := rfl
@[simp] theorem State.generate_apu (s : State) (i : Instr) (p : SeqPhase) : (s.generate i p).apu = s.apu := rfl
@[simp] theorem State.generate_ch1 (s : State) (i : Instr) (p : SeqPhase) : (s.generate i p).ch1 = s.ch1 := rfl
@[simp] theorem State.generate_sweep (s : State) (i : Instr) (p : SeqPhase) : (s.generate i p).sweep = s.sweep := rfl
@[simp] theorem State.generate_ch2 (s : State) (i : Instr) (p : SeqPhase) : (s.generate i p).ch2 = s.ch2 := rfl
@[simp] theorem State.generate_wave (s : State) (i : Instr) (p : SeqPhase) : (s.generate i p).wave = s.wave := rfl
@[simp] theorem State.generate_noise (s : State) (i : Instr) (p : SeqPhase) : (s.generate i p).noise = s.noise := rfl
@[simp] theorem State.generate_fifoA (s : State) (i : Instr) (p : SeqPhase) : (s.generate i p).fifoA = s.fifoA := rfl
@[simp] theorem State.generate_fifoB (s : State) (i : Instr) (p : SeqPhase) : (s.generate i p).fifoB = s.fifoB := rfl
@[simp] theorem State.generate_resampler (s : State) (i : Instr) (p : SeqPhase) : (s.generate i p).resampler = s.resampler := rfl
@[simp] theorem State.generate_ring (s : State) (i : Instr) (p : SeqPhase) : (s.generate i p).ring = s.ring := rfl
@[simp] theorem State.generate_faults (s : State) (i : Instr) (p : SeqPhase) : (s.generate i p).faults = s.faults := rfl
@[simp] theorem State.generate_params (s : State) (i : Instr) (p : SeqPhase) : (s.generate i p).params = s.params := rfl
@[simp] theorem State.generate_seq (s : State) (i : Instr) (p : SeqPhase) : (s.generate i p).seq = { s.seq with phase := p } := rfl
@[simp] theorem State.generate_events (s : State) (i : Instr) (p : SeqPhase) : (s.generate i p).events = [{ word := encode i, arg := .none }] := rfl
@[simp] theorem State.generate_args (s : State) (i : Instr) (p : SeqPhase) : (s.generate i p).args = s.args := rfl
@[simp] theorem State.generate_env (s : State) (i : Instr) (p : SeqPhase) : (s.generate i p).env = s.env := rfl
@[simp] theorem State.generate_out (s : State) (i : Instr) (p : SeqPhase) : (s.generate i p).out = s.out := rfl
@[simp] theorem State.generate_tornDown (s : State) (i : Instr) (p : SeqPhase) : (s.generate i p).tornDown = s.tornDown := rfl

/-! ### endFrame -/

@[simp] theorem State.endFrame_sched (s : State) : (s.endFrame).sched = { s.sched with inFrame := false } := rfl
@[simp] theorem State.endFrame_irq (s : State) : (s.endFrame).irq = s.irq := rfl
@[simp] theorem State.endFrame_timers (s : State) : (s.endFrame).timers = s.timers := rfl
@[simp] theorem State.endFrame_apu (s : State) : (s.endFrame).apu = s.apu := rfl
@[simp] theorem State.endFrame_ch1 (s : State) : (s.endFrame).ch1 = s.ch1 := rfl
@[simp] theorem State.endFrame_sweep (s : State) : (s.endFrame).sweep = s.sweep := rfl
@[simp] theorem State.endFrame_ch2 (s : State) : (s.endFrame).ch2 = s.ch2 := rfl
@[simp] theorem State.endFrame_wave (s : State) : (s.endFrame).wave = s.wave := rfl
@[simp] theorem State.endFrame_noise (s : State) : (s.endFrame).noise = s.noise := rfl
@[simp] theorem State.endFrame_fifoA (s : State) : (s.endFrame).fifoA = s.fifoA := rfl
@[simp] theorem State.endFrame_fifoB (s : State) : (s.endFrame).fifoB = s.fifoB := rfl
@[simp] theorem State.endFrame_resampler (s : State) : (s.endFrame).resampler = s.resampler := rfl
@[simp] theorem State.endFrame_ring (s : State) : (s.endFrame).ring = s.ring := rfl
@[simp] theorem State.endFrame_faults (s : State) : (s.endFrame).faults = s.faults := rfl
@[simp] theorem State.endFrame_params (s : State) : (s.endFrame).params = s.params := rfl
@[simp] theorem State.endFrame_seq (s : State) : (s.endFrame).seq = { s.seq with phase := .idle } := rfl
@[simp] theorem State.endFrame_events (s : State) : (s.endFrame).events = s.events := rfl
@[simp] theorem State.endFrame_args (s : State) : (s.endFrame).args = s.args := rfl
@[simp] theorem State.endFrame_env (s : State) : (s.endFrame).env = s.env := rfl
@[simp] theorem State.endFrame_out (s : State) : (s.endFrame).out = .frameDone s.sched.didRender :: s.out := rfl
@[simp] theorem State.endFrame_tornDown (s : State) : (s.endFrame).tornDown = s.tornDown := rfl

/-! ### setFifo, loadArg, leaveRunning, wake, signal: by cases -/

@[simp] theorem State.setFifo_sched (s : State) (f : FifoId) (q : Fifo) : (s.setFifo f q).sched = s.sched := by cases f <;> rfl
@[simp] theorem State.setFifo_irq (s : State) (f : FifoId) (q : Fifo) : (s.setFifo f q).irq = s.irq := by cases f <;> rfl
@[simp] theorem State.setFifo_timers (s : State) (f : FifoId) (q : Fifo) : (s.setFifo f q).timers = s.timers := by cases f <;> rfl
@[simp] theorem State.setFifo_apu (s : State) (f : FifoId) (q : Fifo) : (s.setFifo f q).apu = s.apu := by cases f <;> rfl
@[simp] theorem State.setFifo_ch1 (s : State) (f : FifoId) (q : Fifo) : (s.setFifo f q).ch1 = s.ch1 := by cases f <;> rfl
@[simp] theorem State.setFifo_sweep (s : State) (f : FifoId) (q : Fifo) : (s.setFifo f q).sweep = s.sweep := by cases f <;> rfl
@[simp] theorem State.setFifo_ch2 (s : State) (f : FifoId) (q : Fifo) : (s.setFifo f q).ch2 = s.ch2 := by cases f <;> rfl
@[simp] theorem State.setFifo_wave (s : State) (f : FifoId) (q : Fifo) : (s.setFifo f q).wave = s.wave := by cases f <;> rfl
@[simp] theorem State.setFifo_noise (s : State) (f : FifoId) (q : Fifo) : (s.setFifo f q).noise = s.noise := by cases f <;> rfl
@[simp] theorem State.setFifo_resampler (s : State) (f : FifoId) (q : Fifo) : (s.setFifo f q).resampler = s.resampler := by cases f <;> rfl
@[simp] theorem State.setFifo_ring (s : State) (f : FifoId) (q : Fifo) : (s.setFifo f q).ring = s.ring := by cases f <;> rfl
@[simp] theorem State.setFifo_faults (s : State) (f : FifoId) (q : Fifo) : (s.setFifo f q).faults = s.faults := by cases f <;> rfl
@[simp] theorem State.setFifo_params (s : State) (f : FifoId) (q : Fifo) : (s.setFifo f q).params = s.params := by cases f <;> rfl
@[simp] theorem State.setFifo_seq (s : State) (f : FifoId) (q : Fifo) : (s.setFifo f q).seq = s.seq := by cases f <;> rfl
@[simp] theorem State.setFifo_events (s : State) (f : FifoId) (q : Fifo) : (s.setFifo f q).events = s.events := by cases f <;> rfl
@[simp] theorem State.setFifo_args (s : State) (f : FifoId) (q : Fifo) : (s.setFifo f q).args = s.args := by cases f <;> rfl
@[simp] theorem State.setFifo_env (s : State) (f : FifoId) (q : Fifo) : (s.setFifo f q).env = s.env := by cases f <;> rfl
@[simp] theorem State.setFifo_out (s : State) (f : FifoId) (q : Fifo) : (s.setFifo f q).out = s.out := by cases f <;> rfl
@[simp] theorem State.setFifo_tornDown (s : State) (f : FifoId) (q : Fifo) : (s.setFifo f q).tornDown = s.tornDown := by cases f <;> rfl
@[simp] theorem State.fifo_setFifo_same (s : State) (f : FifoId) (q : Fifo) : (s.setFifo f q).fifo f = q := by cases f <;> rfl
theorem State.fifo_setFifo_other (s : State) (f g : FifoId) (q : Fifo) (h : g ≠ f) : (s.setFifo f q).fifo g = s.fifo g := by
  cases f <;> cases g <;> first | rfl | exact absurd rfl h
@[simp] theorem State.setFifo_a_fifoA (s : State) (q : Fifo) : (s.setFifo .a q).fifoA = q := rfl
@[simp] theorem State.setFifo_a_fifoB (s : State) (q : Fifo) : (s.setFifo .a q).fifoB = s.fifoB := rfl
@[simp] theorem State.setFifo_b_fifoB (s : State) (q : Fifo) : (s.setFifo .b q).fifoB = q := rfl
@[simp] theorem State.setFifo_b_fifoA (s : State) (q : Fifo) : (s.setFifo .b q).fifoA = s.fifoA := rfl
@[simp] theorem State.emit_fifo (s : State) (o : Output) (f : FifoId) : (s.emit o).fifo f = s.fifo f := by cases f <;> rfl
@[simp] theorem State.setTimer_fifo (s : State) (n : Fin 4) (t : Timer) (f : FifoId) : (s.setTimer n t).fifo f = s.fifo f := by
  cases f <;> rfl
@[simp] theorem State.setFlags_fifo (s : State) (b : Half) (f : FifoId) : (s.setFlags b).fifo f = s.fifo f := by cases f <;> rfl

@[simp] theorem State.loadArg_sched (s : State) (a : EventArg) : (s.loadArg a).sched = s.sched := by cases a <;> rfl
@[simp] theorem State.loadArg_irq (s : State) (a : EventArg) : (s.loadArg a).irq = s.irq := by cases a <;> rfl
@[simp] theorem State.loadArg_timers (s : State) (a : EventArg) : (s.loadArg a).timers = s.timers := by cases a <;> rfl
@[simp] theorem State.loadArg_apu (s : State) (a : EventArg) : (s.loadArg a).apu = s.apu := by cases a <;> rfl
@[simp] theorem State.loadArg_ch1 (s : State) (a : EventArg) : (s.loadArg a).ch1 = s.ch1 := by cases a <;> rfl
@[simp] theorem State.loadArg_sweep (s : State) (a : EventArg) : (s.loadArg a).sweep = s.sweep := by cases a <;> rfl
@[simp] theorem State.loadArg_ch2 (s : State) (a : EventArg) : (s.loadArg a).ch2 = s.ch2 := by cases a <;> rfl
@[simp] theorem State.loadArg_wave (s : State) (a : EventArg) : (s.loadArg a).wave = s.wave := by cases a <;> rfl
@[simp] theorem State.loadArg_noise (s : State) (a : EventArg) : (s.loadArg a).noise = s.noise := by cases a <;> rfl
@[simp] theorem State.loadArg_fifoA (s : State) (a : EventArg) : (s.loadArg a).fifoA = s.fifoA := by cases a <;> rfl
@[simp] theorem State.loadArg_fifoB (s : State) (a : EventArg) : (s.loadArg a).fifoB = s.fifoB := by cases a <;> rfl
@[simp] theorem State.loadArg_resampler (s : State) (a : EventArg) : (s.loadArg a).resampler = s.resampler := by cases a <;> rfl
@[simp] theorem State.loadArg_ring (s : State) (a : EventArg) : (s.loadArg a).ring = s.ring := by cases a <;> rfl
@[simp] theorem State.loadArg_faults (s : State) (a : EventArg) : (s.loadArg a).faults = s.faults := by cases a <;> rfl
@[simp] theorem State.loadArg_params (s : State) (a : EventArg) : (s.loadArg a).params = s.params := by cases a <;> rfl
@[simp] theorem State.loadArg_seq (s : State) (a : EventArg) : (s.loadArg a).seq = s.seq := by cases a <;> rfl
@[simp] theorem State.loadArg_events (s : State) (a : EventArg) : (s.loadArg a).events = s.events := by cases a <;> rfl
@[simp] theorem State.loadArg_env (s : State) (a : EventArg) : (s.loadArg a).env = s.env := by cases a <;> rfl
@[simp] theorem State.loadArg_out (s : State) (a : EventArg) : (s.loadArg a).out = s.out := by cases a <;> rfl
@[simp] theorem State.loadArg_tornDown (s : State) (a : EventArg) : (s.loadArg a).tornDown = s.tornDown := by cases a <;> rfl

@[simp] theorem State.leaveRunning_irq (s : State) (h : HaltState) : (s.leaveRunning h).irq = s.irq := by unfold State.leaveRunning; split <;> rfl
@[simp] theorem State.leaveRunning_timers (s : State) (h : HaltState) : (s.leaveRunning h).timers = s.timers := by unfold State.leaveRunning; split <;> rfl
@[simp] theorem State.leaveRunning_apu (s : State) (h : HaltState) : (s.leaveRunning h).apu = s.apu := by unfold State.leaveRunning; split <;> rfl
@[simp] theorem State.leaveRunning_ch1 (s : State) (h : HaltState) : (s.leaveRunning h).ch1 = s.ch1 := by unfold State.leaveRunning; split <;> rfl
@[simp] theorem State.leaveRunning_sweep (s : State) (h : HaltState) : (s.leaveRunning h).sweep = s.sweep := by unfold State.leaveRunning; split <;> rfl
@[simp] theorem State.leaveRunning_ch2 (s : State) (h : HaltState) : (s.leaveRunning h).ch2 = s.ch2 := by unfold State.leaveRunning; split <;> rfl
@[simp] theorem State.leaveRunning_wave (s : State) (h : HaltState) : (s.leaveRunning h).wave = s.wave := by unfold State.leaveRunning; split <;> rfl
@[simp] theorem State.leaveRunning_noise (s : State) (h : HaltState) : (s.leaveRunning h).noise = s.noise := by unfold State.leaveRunning; split <;> rfl
@[simp] theorem State.leaveRunning_fifoA (s : State) (h : HaltState) : (s.leaveRunning h).fifoA = s.fifoA := by unfold State.leaveRunning; split <;> rfl
@[simp] theorem State.leaveRunning_fifoB (s : State) (h : HaltState) : (s.leaveRunning h).fifoB = s.fifoB := by unfold State.leaveRunning; split <;> rfl
@[simp] theorem State.leaveRunning_resampler (s : State) (h : HaltState) : (s.leaveRunning h).resampler = s.resampler := by unfold State.leaveRunning; split <;> rfl
@[simp] theorem State.leaveRunning_ring (s : State) (h : HaltState) : (s.leaveRunning h).ring = s.ring := by unfold State.leaveRunning; split <;> rfl
@[simp] theorem State.leaveRunning_faults (s : State) (h : HaltState) : (s.leaveRunning h).faults = s.faults := by unfold State.leaveRunning; split <;> rfl
@[simp] theorem State.leaveRunning_params (s : State) (h : HaltState) : (s.leaveRunning h).params = s.params := by unfold State.leaveRunning; split <;> rfl
@[simp] theorem State.leaveRunning_seq (s : State) (h : HaltState) : (s.leaveRunning h).seq = s.seq := by unfold State.leaveRunning; split <;> rfl
@[simp] theorem State.leaveRunning_events (s : State) (h : HaltState) : (s.leaveRunning h).events = s.events := by unfold State.leaveRunning; split <;> rfl
@[simp] theorem State.leaveRunning_args (s : State) (h : HaltState) : (s.leaveRunning h).args = s.args := by unfold State.leaveRunning; split <;> rfl
@[simp] theorem State.leaveRunning_env (s : State) (h : HaltState) : (s.leaveRunning h).env = s.env := by unfold State.leaveRunning; split <;> rfl
@[simp] theorem State.leaveRunning_out (s : State) (h : HaltState) : (s.leaveRunning h).out = s.out := by unfold State.leaveRunning; split <;> rfl
@[simp] theorem State.leaveRunning_tornDown (s : State) (h : HaltState) : (s.leaveRunning h).tornDown = s.tornDown := by unfold State.leaveRunning; split <;> rfl

@[simp] theorem State.wake_irq (s : State) (p : Half) : (s.wake p).irq = s.irq := by unfold State.wake; split <;> rfl
@[simp] theorem State.wake_timers (s : State) (p : Half) : (s.wake p).timers = s.timers := by unfold State.wake; split <;> rfl
@[simp] theorem State.wake_apu (s : State) (p : Half) : (s.wake p).apu = s.apu := by unfold State.wake; split <;> rfl
@[simp] theorem State.wake_ch1 (s : State) (p : Half) : (s.wake p).ch1 = s.ch1 := by unfold State.wake; split <;> rfl
@[simp] theorem State.wake_sweep (s : State) (p : Half) : (s.wake p).sweep = s.sweep := by unfold State.wake; split <;> rfl
@[simp] theorem State.wake_ch2 (s : State) (p : Half) : (s.wake p).ch2 = s.ch2 := by unfold State.wake; split <;> rfl
@[simp] theorem State.wake_wave (s : State) (p : Half) : (s.wake p).wave = s.wave := by unfold State.wake; split <;> rfl
@[simp] theorem State.wake_noise (s : State) (p : Half) : (s.wake p).noise = s.noise := by unfold State.wake; split <;> rfl
@[simp] theorem State.wake_fifoA (s : State) (p : Half) : (s.wake p).fifoA = s.fifoA := by unfold State.wake; split <;> rfl
@[simp] theorem State.wake_fifoB (s : State) (p : Half) : (s.wake p).fifoB = s.fifoB := by unfold State.wake; split <;> rfl
@[simp] theorem State.wake_resampler (s : State) (p : Half) : (s.wake p).resampler = s.resampler := by unfold State.wake; split <;> rfl
@[simp] theorem State.wake_ring (s : State) (p : Half) : (s.wake p).ring = s.ring := by unfold State.wake; split <;> rfl
@[simp] theorem State.wake_faults (s : State) (p : Half) : (s.wake p).faults = s.faults := by unfold State.wake; split <;> rfl
@[simp] theorem State.wake_params (s : State) (p : Half) : (s.wake p).params = s.params := by unfold State.wake; split <;> rfl
@[simp] theorem State.wake_seq (s : State) (p : Half) : (s.wake p).seq = s.seq := by unfold State.wake; split <;> rfl
@[simp] theorem State.wake_events (s : State) (p : Half) : (s.wake p).events = s.events := by unfold State.wake; split <;> rfl
@[simp] theorem State.wake_args (s : State) (p : Half) : (s.wake p).args = s.args := by unfold State.wake; split <;> rfl
@[simp] theorem State.wake_env (s : State) (p : Half) : (s.wake p).env = s.env := by unfold State.wake; split <;> rfl
@[simp] theorem State.wake_out (s : State) (p : Half) : (s.wake p).out = s.out := by unfold State.wake; split <;> rfl
@[simp] theorem State.wake_tornDown (s : State) (p : Half) : (s.wake p).tornDown = s.tornDown := by unfold State.wake; split <;> rfl

@[simp] theorem State.signal_irq (s : State) (p : Half) : (s.signal p).irq = s.irq := rfl
@[simp] theorem State.signal_timers (s : State) (p : Half) : (s.signal p).timers = s.timers := rfl
@[simp] theorem State.signal_apu (s : State) (p : Half) : (s.signal p).apu = s.apu := rfl
@[simp] theorem State.signal_ch1 (s : State) (p : Half) : (s.signal p).ch1 = s.ch1 := rfl
@[simp] theorem State.signal_sweep (s : State) (p : Half) : (s.signal p).sweep = s.sweep := rfl
@[simp] theorem State.signal_ch2 (s : State) (p : Half) : (s.signal p).ch2 = s.ch2 := rfl
@[simp] theorem State.signal_wave (s : State) (p : Half) : (s.signal p).wave = s.wave := rfl
@[simp] theorem State.signal_noise (s : State) (p : Half) : (s.signal p).noise = s.noise := rfl
@[simp] theorem State.signal_fifoA (s : State) (p : Half) : (s.signal p).fifoA = s.fifoA := rfl
@[simp] theorem State.signal_fifoB (s : State) (p : Half) : (s.signal p).fifoB = s.fifoB := rfl
@[simp] theorem State.signal_resampler (s : State) (p : Half) : (s.signal p).resampler = s.resampler := rfl
@[simp] theorem State.signal_ring (s : State) (p : Half) : (s.signal p).ring = s.ring := rfl
@[simp] theorem State.signal_faults (s : State) (p : Half) : (s.signal p).faults = s.faults := rfl
@[simp] theorem State.signal_params (s : State) (p : Half) : (s.signal p).params = s.params := rfl
@[simp] theorem State.signal_seq (s : State) (p : Half) : (s.signal p).seq = s.seq := rfl
@[simp] theorem State.signal_events (s : State) (p : Half) : (s.signal p).events = s.events := rfl
@[simp] theorem State.signal_args (s : State) (p : Half) : (s.signal p).args = s.args := rfl
@[simp] theorem State.signal_env (s : State) (p : Half) : (s.signal p).env = s.env := rfl
@[simp] theorem State.signal_tornDown (s : State) (p : Half) : (s.signal p).tornDown = s.tornDown := rfl

/-! ### Timers, by index -/

@[simp] theorem State.timer_setTimer_same (s : State) (n : Fin 4) (t : Timer) : (s.setTimer n t).timer n = t := by
  simp [State.timer]

theorem State.timer_setTimer_other (s : State) (m n : Fin 4) (t : Timer) (h : m ≠ n) :
    (s.setTimer n t).timer m = s.timer m := by
  have : n.val ≠ m.val := fun e => h (Fin.ext e.symm)
  simp [State.timer, this]

@[simp] theorem State.timer_emit (s : State) (o : Output) (m : Fin 4) : (s.emit o).timer m = s.timer m := rfl
@[simp] theorem State.timer_setFifo (s : State) (f : FifoId) (q : Fifo) (m : Fin 4) :
    (s.setFifo f q).timer m = s.timer m := by cases f <;> rfl
@[simp] theorem State.timer_setFlags (s : State) (b : Half) (m : Fin 4) : (s.setFlags b).timer m = s.timer m := rfl

end Sys2Proof.Machine
end

