-- ==== Sys2Proof/Laws/Ops.lean ====
section
/-! SUPPORT. What each shared operation over interrupts, FIFOs and register lanes does, said once. -/

namespace Sys2Proof.Machine

/-! ## Byte lanes (R205) -/

/-- The bits of a merge: an enabled lane's bit comes from the data, every other from the old value (R205). -/
theorem merge_getLsbD (be : BitVec 2) (old data : Half) (n : Nat) (h : n < 16) :
    (merge be old data).getLsbD n =
      if be.getLsbD (n / 8) then data.getLsbD n else old.getLsbD n := by
  have hb : be = 0 ∨ be = 1 ∨ be = 2 ∨ be = 3 := by revert be; decide
  unfold merge lanes laneLo laneHi
  rcases hb with rfl | rfl | rfl | rfl <;> interval_cases n <;> simp

@[simp] theorem merge_none (old data : Half) : merge 0 old data = old := by
  apply BitVec.eq_of_getLsbD_eq
  intro i hi
  rw [merge_getLsbD 0 old data i hi]
  simp

@[simp] theorem merge_both (old data : Half) : merge 3 old data = data := by
  apply BitVec.eq_of_getLsbD_eq
  intro i hi
  rw [merge_getLsbD 3 old data i hi]
  have : i / 8 < 2 := by omega
  interval_cases i / 8 <;> rfl

/-! ## The interrupt and halt state machine -/

/-- The flag of timer n is bit 3 + n (R505, R910). -/
theorem timerFlag_getLsbD (n : Fin 4) (k : Nat) : (timerFlag n).getLsbD k = decide (k = 3 + n.val) := by
  by_cases hk : k < 16
  · revert n
    interval_cases k <;> decide
  · have : k ≠ 3 + n.val := by have := n.isLt; omega
    simp [this, BitVec.getLsbD_of_ge _ _ (Nat.not_lt.mp hk)]

/-- Setting flags sets exactly those bits (R416). -/
theorem State.setFlags_getLsbD (s : State) (bits : Half) (k : Nat) :
    (s.setFlags bits).irq.flags.getLsbD k = (s.irq.flags.getLsbD k || bits.getLsbD k) := by
  simp [State.setFlags]

/-- A flag register keeps its 14 bits when 14-bit flags join it (R103). -/
theorem fits14_or {a b : Half} (ha : fits14 a = true) (hb : fits14 b = true) : fits14 (a ||| b) = true := by
  simp only [fits14, beq_iff_eq] at *
  rw [BitVec.and_or_distrib_right, ha, hb]
  rfl

theorem fits14_timerFlag (n : Fin 4) : fits14 (timerFlag n) = true := by revert n; decide

/-- A wake leaves a Running CPU as it is (R411). -/
theorem State.wake_of_running {s : State} (h : s.sched.halt = .running) (p : Half) : s.wake p = s := by
  simp [State.wake, h]

/-- The two outcomes of the wake rule (R411). -/
theorem State.wake_cases (s : State) (p : Half) :
    (s.wake p = s ∧ (s.sched.halt = .running ∨ wakes s.sched p = false)) ∨
    (s.wake p = { s with sched := { s.sched with halt := .running, waitActive := false } } ∧
      s.sched.halt ≠ .running ∧ wakes s.sched p = true) := by
  unfold State.wake
  split
  · exact .inr ⟨rfl, ‹_›⟩
  · rename_i h
    refine .inl ⟨rfl, ?_⟩
    by_cases h1 : s.sched.halt = .running
    · exact .inl h1
    · right
      cases hw : wakes s.sched p
      · rfl
      · exact absurd ⟨h1, hw⟩ h

/-- A CPU that is not Running ignores a request to leave Running (R413, R414). -/
theorem State.leaveRunning_of_not_running {s : State} (h : s.sched.halt ≠ .running) (p : HaltState) :
    s.leaveRunning p = s := by
  simp [State.leaveRunning, h]

/-! ## FIFOs -/

/-- A push keeps the depth (R701, R902). -/
theorem Fifo.push_length_le (q : Fifo) (x : Byte) (h : q.queue.length ≤ Config.fifoDepth) :
    (q.push x).queue.length ≤ Config.fifoDepth := by
  unfold Fifo.push
  split
  · simp; omega
  · exact h

/-- A write of a FIFO register keeps the depth (R701, R702, R902). -/
theorem Fifo.write_length_le (q : Fifo) (be : BitVec 2) (data : Half) (h : q.queue.length ≤ Config.fifoDepth) :
    (q.write be data).queue.length ≤ Config.fifoDepth := by
  unfold Fifo.write
  generalize laneBytes be data = bytes
  induction bytes generalizing q with
  | nil => exact h
  | cons b bs ih => exact ih _ (q.push_length_le b h)

/-- A push changes the queue only. -/
theorem Fifo.push_eq (q : Fifo) (x : Byte) : q.push x = { q with queue := (q.push x).queue } := by
  unfold Fifo.push
  split <;> rfl

/-- What a pop leaves (R703). -/
theorem Fifo.pop_eq (q : Fifo) : q.pop = { q with queue := q.queue.tail, latch := q.queue.headD q.latch } := by
  obtain ⟨queue, latch, requests, vol, enR, enL, timer⟩ := q
  cases queue <;> rfl

@[simp] theorem Fifo.pop_queue (q : Fifo) : q.pop.queue = q.queue.tail := by rw [Fifo.pop_eq]

/-- Everything FIFO_DRAIN can touch: the FIFO and the record of requests (R703). -/
theorem fifoDrain_frame (f : FifoId) (s : State) :
    fifoDrain f s = { s with fifoA := (fifoDrain f s).fifoA, fifoB := (fifoDrain f s).fifoB, out := (fifoDrain f s).out } := by
  unfold fifoDrain
  cases f <;> (dsimp only; split <;> rfl)

/-- The FIFO that is not drained stays. -/
theorem fifoDrain_a_fifoB (s : State) : (fifoDrain .a s).fifoB = s.fifoB := by
  unfold fifoDrain; dsimp only; split <;> rfl

theorem fifoDrain_b_fifoA (s : State) : (fifoDrain .b s).fifoA = s.fifoA := by
  unfold fifoDrain; dsimp only; split <;> rfl

/-- The queue that a drain leaves is the tail (R703). -/
theorem fifoDrain_queue (f : FifoId) (s : State) : ((fifoDrain f s).fifo f).queue = (s.fifo f).queue.tail := by
  unfold fifoDrain
  cases f <;> (dsimp only; split <;> simp [State.emit, State.setFifo, State.fifo])

end Sys2Proof.Machine
end

