-- ==== Sys2Proof/Laws/Agents.lean ====
section
/-! SUPPORT. What an oracle call can do to the block: one induction principle over the words that act inside it, and
the frames that follow from it. -/

namespace Sys2Proof.Machine

/-- The operations that words on the BUS, CPU, IRQSRC and SINK ports are made of keep `P`. -/
structure AgentClosed (P : State → Prop) : Prop where
  write : ∀ be data r s, P s → P (writeReg be data r s)
  halt : ∀ s, P s → P (cpuHalt s)
  stop : ∀ s, P s → P (cpuStop s)
  wait : ∀ mask s, P s → P (cpuIntrwait mask s)
  request : ∀ bits s, P s → P (irqRequest bits s)
  pop : ∀ pad count s, P s → P (ringPop pad count s)
  emit : ∀ s o, P s → P (s.emit o)

theorem agentExec_induct {P : State → Prop} (h : AgentClosed P) (i : Instr) (s : State) (hs : P s) :
    P (agentExec i s) := by
  cases i <;> simp only [agentExec] <;>
    first
      | exact h.write _ _ _ _ hs
      | exact h.emit _ _ hs
      | exact h.halt _ hs
      | exact h.stop _ hs
      | exact h.wait _ _ hs
      | exact h.request _ _ hs
      | exact h.pop _ _ _ hs
      | exact hs

theorem agentWord_induct {P : State → Prop} (h : AgentClosed P) (p : Port) (w : Word) (s : State) (hs : P s) :
    P (agentWord p w s) := by
  unfold agentWord
  split
  · exact agentExec_induct h _ _ hs
  · exact h.emit _ _ hs

theorem agentWords_induct {P : State → Prop} (h : AgentClosed P) (p : Port) (ws : List Word) (s : State) (hs : P s) :
    P (agentWords p ws s) := by
  unfold agentWords
  induction ws generalizing s with
  | nil => exact hs
  | cons w ws ih => exact ih _ (agentWord_induct h _ _ _ hs)

theorem performAccess_induct {P : State → Prop} (h : AgentClosed P) (a : BusAccess) (between : List Word) (s : State)
    (hs : P s) : P (performAccess a between s) := by
  unfold performAccess
  dsimp only
  have hf := agentWords_induct h .bus ((a.split.map Transaction.word).drop 1) _
    (agentWords_induct h .sink between _ (agentWords_induct h .bus ((a.split.map Transaction.word).take 1) s hs))
  split
  · exact h.emit _ _ hf
  · exact hf

theorem performIssue_induct {P : State → Prop} (h : AgentClosed P) (i : Issue) (s : State) (hs : P s) :
    P (performIssue s i) := by
  cases i with
  | bus w => exact agentWord_induct h _ _ _ hs
  | access a between => exact performAccess_induct h _ _ _ hs
  | cpu w => exact agentWord_induct h _ _ _ hs
  | irqsrc w => exact agentWord_induct h _ _ _ hs
  | sink w => exact agentWord_induct h _ _ _ hs

theorem performIssues_induct {P : State → Prop} (h : AgentClosed P) (is : List Issue) (s : State) (hs : P s) :
    P (performIssues is s) := by
  unfold performIssues
  induction is generalizing s with
  | nil => exact hs
  | cons i is ih => exact ih _ (performIssue_induct h i s hs)

/-- What no word of these ports can touch: the resampler, the faults, the parameters, the place of RUN_FRAME, the
waiting events, the operand registers and the oracles' answers; and what the sink's words do to the ring: they take
frames from its old end and drop none. -/
def AgentFrame (s t : State) : Prop :=
  t.resampler = s.resampler ∧ t.faults = s.faults ∧ t.params = s.params ∧ t.seq = s.seq ∧
  t.events = s.events ∧ t.args = s.args ∧ t.env = s.env ∧ t.tornDown = s.tornDown ∧
  t.ring.dropped = s.ring.dropped ∧ ∃ taken, s.ring.rb = taken ++ t.ring.rb

theorem AgentFrame.refl (s : State) : AgentFrame s s := ⟨rfl, rfl, rfl, rfl, rfl, rfl, rfl, rfl, rfl, [], rfl⟩

theorem AgentFrame.trans {s t u : State} (h : AgentFrame s t) (k : AgentFrame t u) : AgentFrame s u := by
  obtain ⟨h1, h2, h3, h4, h5, h6, h7, h8, h9, a, ha⟩ := h
  obtain ⟨k1, k2, k3, k4, k5, k6, k7, k8, k9, b, hb⟩ := k
  exact ⟨k1.trans h1, k2.trans h2, k3.trans h3, k4.trans h4, k5.trans h5, k6.trans h6, k7.trans h7, k8.trans h8,
    k9.trans h9, a ++ b, by rw [ha, hb, List.append_assoc]⟩

/-- A register write keeps that frame (R205, R211). -/
theorem writeReg_frame (be : BitVec 2) (data : Half) (r : Reg) (s : State) : AgentFrame s (writeReg be data r s) := by
  cases r <;>
    simp only [writeReg, writeSoundcntX, writeIme, writeHaltcnt, cpuHalt, cpuStop, State.leaveRunning] <;>
    (repeat' split) <;> exact ⟨rfl, rfl, rfl, rfl, rfl, rfl, rfl, rfl, rfl, [], rfl⟩

/-- So does a pop (R822). -/
theorem ringPop_frame (pad : Bool) (count : Half) (s : State) : AgentFrame s (ringPop pad count s) :=
  ⟨rfl, rfl, rfl, rfl, rfl, rfl, rfl, rfl, rfl, s.ring.rb.take count.toNat, (List.take_append_drop _ _).symm⟩

theorem AgentFrame.closed (s : State) : AgentClosed (AgentFrame s) where
  write be data r t h := h.trans (writeReg_frame be data r t)
  halt t h := h.trans (by unfold cpuHalt State.leaveRunning; split <;> exact AgentFrame.refl _)
  stop t h := h.trans (by unfold cpuStop State.leaveRunning; split <;> exact AgentFrame.refl _)
  wait mask t h := h.trans (by unfold cpuIntrwait; split <;> exact AgentFrame.refl _)
  request bits t h := h
  pop pad count t h := h.trans (ringPop_frame pad count t)
  emit t o h := h

/-- Whatever happens inside an oracle call, it keeps that frame (R222, R940-R943). -/
theorem performIssues_frame (is : List Issue) (s : State) : AgentFrame s (performIssues is s) :=
  performIssues_induct (AgentFrame.closed s) is s (AgentFrame.refl s)

/-- What a DMA call can be: no transfer, which changes only the list of answers, or a call that issues words
(R941). -/
theorem dmaStep_cases (s : State) :
    (∃ e : Env, dmaStep s = (0, { s with env := e })) ∨
    (∃ (e : Env) (c : Call), dmaStep s = (c.cost, performIssues c.issues { s with env := e })) := by
  unfold dmaStep
  dsimp only
  split
  · exact .inl ⟨_, rfl⟩
  · exact .inr ⟨_, _, rfl⟩

end Sys2Proof.Machine
end

