-- ==== Sys2Proof/Laws/Decode.lean ====
section
/-! SUPPORT. The fields of the words that the encoder builds, and the two tables of register addresses against each
other. -/

namespace Sys2Proof

/-! ## The value of a word -/

/-- `a` shifted up by `k` bits beside a value below 2^k. -/
theorem shiftLeft_or_eq (a b k : Nat) (h : b < 2 ^ k) : a <<< k ||| b = a * 2 ^ k + b := by
  rw [← Nat.shiftLeft_add_eq_or_of_lt h, Nat.shiftLeft_eq]

/-- A REG word by the weights of its fields (R301). -/
theorem regWord_toNat (cls be : BitVec 2) (h : BitVec 11) (d : Half) :
    (regWord cls be h d).toNat =
      cls.toNat * 0x40000000 + be.toNat * 0x10000000 + h.toNat * 0x20000 + d.toNat := by
  have h1 := be.isLt
  have h2 := h.isLt
  have h3 := d.isLt
  unfold regWord
  simp only [BitVec.toNat_append]
  rw [shiftLeft_or_eq _ _ _ d.isLt, shiftLeft_or_eq _ _ _ (0#1).isLt, shiftLeft_or_eq _ _ _ h.isLt,
    shiftLeft_or_eq _ _ _ be.isLt]
  simp
  omega

/-- A CMD or EVT word by the weights of its fields (R302). -/
theorem cmdWord_toNat (cls : BitVec 2) (op : BitVec 6) (a : BitVec 8) (b : Half) :
    (cmdWord cls op a b).toNat =
      cls.toNat * 0x40000000 + op.toNat * 0x1000000 + a.toNat * 0x10000 + b.toNat := by
  unfold cmdWord
  simp only [BitVec.toNat_append]
  rw [shiftLeft_or_eq _ _ _ b.isLt, shiftLeft_or_eq _ _ _ a.isLt, shiftLeft_or_eq _ _ _ op.isLt]
  omega

/-- A field of a word as a quotient and a remainder. -/
theorem field_toNat (w : Word) (s n : Nat) : (w.extractLsb' s n).toNat = w.toNat / 2 ^ s % 2 ^ n := by
  rw [BitVec.extractLsb'_toNat, Nat.shiftRight_eq_div_pow]

/-! ## Fields of a register word (R301) -/

@[simp] theorem wordClass_regWord (cls be : BitVec 2) (h : BitVec 11) (d : Half) :
    wordClass (regWord cls be h d) = cls := by
  apply BitVec.eq_of_toNat_eq
  unfold wordClass
  rw [field_toNat, regWord_toNat]
  omega

@[simp] theorem wordBe_regWord (cls be : BitVec 2) (h : BitVec 11) (d : Half) :
    wordBe (regWord cls be h d) = be := by
  apply BitVec.eq_of_toNat_eq
  unfold wordBe
  rw [field_toNat, regWord_toNat]
  omega

@[simp] theorem wordHaddr_regWord (cls be : BitVec 2) (h : BitVec 11) (d : Half) :
    wordHaddr (regWord cls be h d) = h := by
  apply BitVec.eq_of_toNat_eq
  unfold wordHaddr
  rw [field_toNat, regWord_toNat]
  omega

@[simp] theorem wordZ_regWord (cls be : BitVec 2) (h : BitVec 11) (d : Half) : wordZ (regWord cls be h d) = false := by
  unfold wordZ
  rw [BitVec.getLsbD, regWord_toNat, Nat.testBit_eq_decide_div_mod_eq]
  simp only [decide_eq_false_iff_not]
  have := d.isLt
  omega

@[simp] theorem wordData_regWord (cls be : BitVec 2) (h : BitVec 11) (d : Half) :
    wordData (regWord cls be h d) = d := by
  apply BitVec.eq_of_toNat_eq
  unfold wordData
  rw [field_toNat, regWord_toNat]
  omega

/-! ## Fields of a command word (R302) -/

@[simp] theorem wordClass_cmdWord (cls : BitVec 2) (op : BitVec 6) (a : BitVec 8) (b : Half) :
    wordClass (cmdWord cls op a b) = cls := by
  apply BitVec.eq_of_toNat_eq
  unfold wordClass
  rw [field_toNat, cmdWord_toNat]
  omega

@[simp] theorem wordOp_cmdWord (cls : BitVec 2) (op : BitVec 6) (a : BitVec 8) (b : Half) :
    wordOp (cmdWord cls op a b) = op := by
  apply BitVec.eq_of_toNat_eq
  unfold wordOp
  rw [field_toNat, cmdWord_toNat]
  omega

@[simp] theorem wordArg8_cmdWord (cls : BitVec 2) (op : BitVec 6) (a : BitVec 8) (b : Half) :
    wordArg8 (cmdWord cls op a b) = a := by
  apply BitVec.eq_of_toNat_eq
  unfold wordArg8
  rw [field_toNat, cmdWord_toNat]
  omega

@[simp] theorem wordData_cmdWord (cls : BitVec 2) (op : BitVec 6) (a : BitVec 8) (b : Half) :
    wordData (cmdWord cls op a b) = b := by
  apply BitVec.eq_of_toNat_eq
  unfold wordData
  rw [field_toNat, cmdWord_toNat]
  omega

@[simp] theorem wordArgs_cmdWord (cls : BitVec 2) (op : BitVec 6) (a : BitVec 8) (b : Half) :
    (cmdWord cls op a b).extractLsb' 0 24 = a ++ b := by
  apply BitVec.eq_of_toNat_eq
  rw [field_toNat, cmdWord_toNat, BitVec.toNat_append, shiftLeft_or_eq _ _ _ b.isLt]
  omega

/-! ## Register addresses (R306) -/

/-- The address table and its inverse agree. -/
@[simp] theorem regAt_haddr (r : Reg) : regAt r.haddr = some r := by
  cases r with
  | waveRam k => revert k; decide
  | fifoA h => revert h; decide
  | fifoB h => revert h; decide
  | tmcntL n => revert n; decide
  | tmcntH n => revert n; decide
  | _ => decide

/-- A register stands at one address only. -/
theorem haddr_of_regAt {h : BitVec 11} {r : Reg} (e : regAt h = some r) : r.haddr = h := by
  revert h r
  decide +kernel

/-- No two registers share an address. -/
theorem Reg.haddr_injective {r q : Reg} (e : r.haddr = q.haddr) : r = q := by
  have := regAt_haddr r
  rw [e, regAt_haddr] at this
  exact (Option.some.inj this).symm

/-- The rows of a register are on the BUS port. -/
@[simp] theorem writeRow_port (be : BitVec 2) (d : Half) (r : Reg) : (writeRow be d r).port = .bus := by
  cases r <;> rfl

@[simp] theorem readRow_port (r : Reg) : (readRow r).port = .bus := by cases r <;> rfl

@[simp] theorem encode_writeRow (be : BitVec 2) (d : Half) (r : Reg) : encode (writeRow be d r) = writeWord r be d := by
  cases r <;> rfl

@[simp] theorem encode_readRow (r : Reg) : encode (readRow r) = readWord r := by cases r <;> rfl

end Sys2Proof
end

