-- ==== Sys2Proof/Laws/Memory.lean ====
section
/-! SUPPORT. The laws of byte storage: a read after a write, and the canonical form, which every operation
keeps (log 20). -/

namespace Sys2Proof.Machine

/-! ## Reading -/

@[simp] theorem Memory.read_nil (a : Nat) : Memory.read [] a = Memory.unwritten := rfl

theorem Memory.read_cons (k : Nat) (x : Byte) (m : Memory) (a : Nat) :
    Memory.read ((k, x) :: m) a = if k = a then x else Memory.read m a := rfl

@[simp] theorem Memory.erase_nil (a : Nat) : Memory.erase [] a = [] := rfl

theorem Memory.erase_cons (k : Nat) (x : Byte) (m : Memory) (a : Nat) :
    Memory.erase ((k, x) :: m) a = if k = a then Memory.erase m a else (k, x) :: Memory.erase m a := by
  by_cases h : k = a <;> simp [Memory.erase, h]

@[simp] theorem Memory.read_erase_same (m : Memory) (a : Nat) : (m.erase a).read a = Memory.unwritten := by
  induction m with
  | nil => rfl
  | cons c m ih =>
    obtain ⟨k, x⟩ := c
    rw [Memory.erase_cons]
    split <;> simp_all [Memory.read_cons]

theorem Memory.read_erase_ne (m : Memory) {a b : Nat} (h : b ≠ a) : (m.erase a).read b = m.read b := by
  induction m with
  | nil => rfl
  | cons c m ih =>
    obtain ⟨k, x⟩ := c
    rw [Memory.erase_cons]
    split
    · rename_i hk
      rw [ih, Memory.read_cons, if_neg (by omega)]
    · rw [Memory.read_cons, Memory.read_cons, ih]

theorem Memory.read_insert_same (m : Memory) (a : Nat) (v : Byte) (h : ∀ c ∈ m, c.1 ≠ a) :
    (m.insert a v).read a = v := by
  induction m with
  | nil => simp [Memory.insert, Memory.read_cons]
  | cons c m ih =>
    obtain ⟨k, x⟩ := c
    have hk : k ≠ a := h (k, x) (by simp)
    have hm : ∀ c ∈ m, c.1 ≠ a := fun c hc => h c (List.mem_cons_of_mem _ hc)
    unfold Memory.insert
    split
    · simp [Memory.read_cons]
    · rw [Memory.read_cons, if_neg hk, ih hm]

theorem Memory.read_insert_ne (m : Memory) {a b : Nat} (v : Byte) (h : b ≠ a) :
    (m.insert a v).read b = m.read b := by
  induction m with
  | nil => simp [Memory.insert, Memory.read_cons, h.symm]
  | cons c m ih =>
    obtain ⟨k, x⟩ := c
    unfold Memory.insert
    split
    · rw [Memory.read_cons, if_neg h.symm]
    · rw [Memory.read_cons, Memory.read_cons, ih]

theorem Memory.erase_addr_ne (m : Memory) (a : Nat) : ∀ c ∈ m.erase a, c.1 ≠ a := by
  intro c hc
  simpa using (List.mem_filter.mp hc).2

/-- A read after a write to the same address gives the value written. -/
@[simp] theorem Memory.read_write_same (m : Memory) (a : Nat) (v : Byte) : (m.write a v).read a = v := by
  unfold Memory.write
  split
  · rename_i hv
    rw [hv, Memory.read_erase_same]
  · exact Memory.read_insert_same _ _ _ (m.erase_addr_ne a)

/-- A write leaves every other address alone. -/
theorem Memory.read_write_ne (m : Memory) {a b : Nat} (v : Byte) (h : b ≠ a) :
    (m.write a v).read b = m.read b := by
  unfold Memory.write
  split
  · exact m.read_erase_ne h
  · rw [Memory.read_insert_ne _ v h, m.read_erase_ne h]

/-! ## The canonical form -/

theorem Memory.wf_cons (k : Nat) (x : Byte) (m : Memory) :
    Memory.wf ((k, x) :: m) = true ↔ x ≠ Memory.unwritten ∧ (∀ c ∈ m, k < c.1) ∧ Memory.wf m = true := by
  simp [Memory.wf, and_assoc]

/-- The memory of State.reset. -/
@[simp] theorem Memory.wf_nil : Memory.wf [] = true := rfl

theorem Memory.mem_of_mem_erase {m : Memory} {a : Nat} {c : Host.Cell} (h : c ∈ m.erase a) : c ∈ m :=
  (List.mem_filter.mp h).1

theorem Memory.wf_erase (m : Memory) (a : Nat) (h : m.wf = true) : (m.erase a).wf = true := by
  induction m with
  | nil => rfl
  | cons c m ih =>
    obtain ⟨k, x⟩ := c
    rw [Memory.wf_cons] at h
    rw [Memory.erase_cons]
    split
    · exact ih h.2.2
    · rw [Memory.wf_cons]
      exact ⟨h.1, fun c hc => h.2.1 c (Memory.mem_of_mem_erase hc), ih h.2.2⟩

theorem Memory.mem_insert {m : Memory} {a : Nat} {v : Byte} {c : Host.Cell} :
    c ∈ m.insert a v ↔ c = (a, v) ∨ c ∈ m := by
  induction m with
  | nil => simp [Memory.insert]
  | cons d m ih =>
    obtain ⟨k, x⟩ := d
    unfold Memory.insert
    split
    · simp
    · simp [ih]; tauto

theorem Memory.wf_insert (m : Memory) (a : Nat) (v : Byte) (h : m.wf = true) (hv : v ≠ Memory.unwritten)
    (ha : ∀ c ∈ m, c.1 ≠ a) : (m.insert a v).wf = true := by
  induction m with
  | nil => simp [Memory.insert, Memory.wf_cons, hv]
  | cons c m ih =>
    obtain ⟨k, x⟩ := c
    have h' := h
    rw [Memory.wf_cons] at h
    have hk : k ≠ a := ha (k, x) (by simp)
    unfold Memory.insert
    split
    · rename_i hlt
      rw [Memory.wf_cons]
      refine ⟨hv, ?_, h'⟩
      intro c hc
      rcases List.mem_cons.mp hc with rfl | hc
      · exact hlt
      · exact Nat.lt_trans hlt (h.2.1 c hc)
    · rw [Memory.wf_cons]
      refine ⟨h.1, ?_, ih h.2.2 fun c hc => ha c (List.mem_cons_of_mem _ hc)⟩
      intro c hc
      rcases Memory.mem_insert.mp hc with rfl | hc
      · show k < a
        omega
      · exact h.2.1 c hc

/-- Every write keeps the canonical form. -/
theorem Memory.wf_write (m : Memory) (a : Nat) (v : Byte) (h : m.wf = true) : (m.write a v).wf = true := by
  unfold Memory.write
  split
  · exact m.wf_erase a h
  · exact Memory.wf_insert _ _ _ (m.wf_erase a h) ‹_› (m.erase_addr_ne a)

/-- A write lists no address but those listed and its own. -/
theorem Memory.mem_write {m : Memory} {a : Nat} {v : Byte} {c : Host.Cell} (h : c ∈ m.write a v) :
    c.1 = a ∨ c ∈ m := by
  unfold Memory.write at h
  split at h
  · exact .inr (Memory.mem_of_mem_erase h)
  · rcases Memory.mem_insert.mp h with rfl | h
    · exact .inl rfl
    · exact .inr (Memory.mem_of_mem_erase h)

/-! ## Wave RAM -/

theorem waveKey_lt (bank : Bool) {k : Nat} (h : k < 16) : waveKey bank k < 32 := by
  cases bank <;> simp [waveKey] <;> omega

theorem waveKey_inj {b c : Bool} {j k : Nat} (hj : j < 16) (hk : k < 16) :
    waveKey b j = waveKey c k ↔ b = c ∧ j = k := by
  cases b <;> cases c <;> simp [waveKey] <;> omega

/-- One byte of wave RAM after a store of one byte (R109, R611). -/
theorem Wave.byte_setByte (w : Wave) {b c : Bool} {j k : Nat} (hj : j < 16) (hk : k < 16) (v : Byte) :
    (w.setByte b j v).byte c k = if c = b ∧ k = j then v else w.byte c k := by
  unfold Wave.byte Wave.setByte
  split
  · rename_i h
    obtain ⟨rfl, rfl⟩ := h
    exact Memory.read_write_same _ _ _
  · rename_i h
    exact Memory.read_write_ne _ _ fun e => h ((waveKey_inj hk hj).mp e)

@[simp] theorem Wave.setByte_bank (w : Wave) (b : Bool) (k : Nat) (v : Byte) : (w.setByte b k v).bank = w.bank := rfl

end Sys2Proof.Machine
end

