-- ==== Sys2Proof/Laws/Output.lean ====
section
/-! SUPPORT. The resampler's loop without its fuel, and the ring buffer's operations by the length of the ring. -/

namespace Sys2Proof.Machine

/-! ## Resampler (R805) -/

/-- The step of the resampler is positive, since OUT_RATE is at least 1 (R9, R805). -/
theorem rsStep_pos (c : Config.Params) : 0 < c.rsStep := by
  unfold Config.Params.rsStep Config.inRate
  have := c.outRate.property
  positivity

/-- The fuel of feed's loop is the least count of rounds that reaches 1 (R805). -/
theorem lt_feedRounds_iff {step : Rat} (h : 0 < step) (phase : Rat) (j : Nat) :
    j < feedRounds step phase ↔ phase + j * step < 1 := by
  unfold feedRounds
  rw [Int.lt_toNat]
  have key : ∀ k : Int, k < ((1 - phase) / step).ceil ↔ (k : Rat) < (1 - phase) / step := by
    intro k
    rw [← not_le, ← not_le, not_iff_not]
    exact Rat.ceil_le_iff
  rw [key, lt_div_iff₀ h]
  push_cast
  constructor <;> intro h' <;> linarith

/-- A round of the loop (R805). -/
theorem Resampler.feedLoop_succ (r : Resampler) (step xl xr : Rat) (fuel : Nat) (phase : Rat) (h : phase < 1) :
    r.feedLoop step xl xr (fuel + 1) phase =
      (r.output xl xr phase :: (r.feedLoop step xl xr fuel (phase + step)).1,
       (r.feedLoop step xl xr fuel (phase + step)).2) := by
  rw [Resampler.feedLoop, if_pos h]

/-- The whole loop, as long as the phase stays below 1 (R805). -/
theorem Resampler.feedLoop_eq (r : Resampler) (step xl xr : Rat) (n : Nat) (phase : Rat)
    (h : ∀ j : Nat, j < n → phase + j * step < 1) :
    r.feedLoop step xl xr n phase =
      ((List.range n).map (fun (j : Nat) => r.output xl xr (phase + j * step)), phase + n * step) := by
  induction n generalizing phase with
  | zero => simp [Resampler.feedLoop]
  | succ n ih =>
    have h0 : phase < 1 := by simpa using h 0 (Nat.succ_pos n)
    have h1 : ∀ j : Nat, j < n → phase + step + j * step < 1 := by
      intro j hj
      have := h (j + 1) (Nat.succ_lt_succ hj)
      push_cast at this
      linarith
    rw [r.feedLoop_succ step xl xr n phase h0, ih _ h1, List.range_succ_eq_map]
    simp only [List.map_cons, List.map_map, Prod.mk.injEq, List.cons.injEq]
    refine ⟨⟨by simp, ?_⟩, by push_cast; ring⟩
    apply List.map_congr_left
    intro j _
    simp only [Function.comp]
    congr 1
    push_cast
    ring

/-! ## Ring buffer (R821, R822) -/

/-- A pop returns what it takes, padded (R822). -/
theorem popFrames_length (pad : Bool) (count : Nat) (rb : List Frame) :
    (popFrames pad count rb).length = if pad then count else min count rb.length := by
  unfold popFrames
  cases pad
  · simp
  · simp
    omega

theorem popFrames_of_le (pad : Bool) {count : Nat} {rb : List Frame} (h : count ≤ rb.length) :
    popFrames pad count rb = rb.take count := by
  unfold popFrames
  cases pad <;> simp [Nat.sub_eq_zero_of_le h]

/-- A push holds exactly when it is the oldest waiting event, the ring is full and the policy is Block (R823). -/
theorem held_iff (s : State) :
    s.held = true ↔ s.params.rbPolicy = .block ∧ s.params.rbCap.val ≤ s.ring.rb.length ∧
      ∃ e es, s.events = e :: es ∧ e.word = encode .evtRingPush := by
  unfold State.held
  cases h : s.events with
  | nil => simp
  | cons e es =>
    simp
    tauto

/-- Under DropOldest no push holds (R821). -/
theorem held_of_dropOldest {s : State} (h : s.params.rbPolicy = .dropOldest) : s.held = false := by
  cases hs : s.held
  · rfl
  · simp [held_iff, h] at hs

theorem held_of_no_events {s : State} (h : s.events = []) : s.held = false := by simp [State.held, h]

/-- The ring after a push keeps its capacity (R820, R902). -/
theorem ringPush_length_le (s : State) (h : s.ring.rb.length ≤ s.params.rbCap.val) :
    (ringPush s).ring.rb.length ≤ (ringPush s).params.rbCap.val := by
  unfold ringPush
  have := s.params.rbCap.property
  split
  · simp; omega
  · split
    · simp; omega
    · simpa [State.enqueue] using h

end Sys2Proof.Machine
end

