-- ==== Sys2Proof/Laws/PerInstr.lean ====
section
/-! SUPPORT. A family of statements about every instruction, one lemma per constructor: the encoder's word of an
instruction selects, in the opcode table, a row of the instruction's own port (R305 check 3). -/

namespace Sys2Proof.Laws.PortOfEncode

/-- The word of an instruction is a word of its row's port. -/
def Statement (i : Instr) : Prop := tablePort (encode i) = i.port

theorem of_write (r : Reg) (be : BitVec 2) (data : Half) : tablePort (writeWord r be data) = .bus := by
  simp [tablePort, rowInstr, writeWord]

theorem of_read (r : Reg) : tablePort (readWord r) = .bus := by
  simp [tablePort, rowInstr, readWord]

theorem regWriteSound1cntL (be : BitVec 2) (data : Half) : Statement (.regWriteSound1cntL be data) := of_write _ _ _

theorem regReadSound1cntL : Statement (.regReadSound1cntL) := of_read _

theorem regWriteSound1cntH (be : BitVec 2) (data : Half) : Statement (.regWriteSound1cntH be data) := of_write _ _ _

theorem regReadSound1cntH : Statement (.regReadSound1cntH) := of_read _

theorem regWriteSound1cntX (be : BitVec 2) (data : Half) : Statement (.regWriteSound1cntX be data) := of_write _ _ _

theorem regReadSound1cntX : Statement (.regReadSound1cntX) := of_read _

theorem regWriteSound2cntL (be : BitVec 2) (data : Half) : Statement (.regWriteSound2cntL be data) := of_write _ _ _

theorem regReadSound2cntL : Statement (.regReadSound2cntL) := of_read _

theorem regWriteSound2cntH (be : BitVec 2) (data : Half) : Statement (.regWriteSound2cntH be data) := of_write _ _ _

theorem regReadSound2cntH : Statement (.regReadSound2cntH) := of_read _

theorem regWriteSound3cntL (be : BitVec 2) (data : Half) : Statement (.regWriteSound3cntL be data) := of_write _ _ _

theorem regReadSound3cntL : Statement (.regReadSound3cntL) := of_read _

theorem regWriteSound3cntH (be : BitVec 2) (data : Half) : Statement (.regWriteSound3cntH be data) := of_write _ _ _

theorem regReadSound3cntH : Statement (.regReadSound3cntH) := of_read _

theorem regWriteSound3cntX (be : BitVec 2) (data : Half) : Statement (.regWriteSound3cntX be data) := of_write _ _ _

theorem regReadSound3cntX : Statement (.regReadSound3cntX) := of_read _

theorem regWriteSound4cntL (be : BitVec 2) (data : Half) : Statement (.regWriteSound4cntL be data) := of_write _ _ _

theorem regReadSound4cntL : Statement (.regReadSound4cntL) := of_read _

theorem regWriteSound4cntH (be : BitVec 2) (data : Half) : Statement (.regWriteSound4cntH be data) := of_write _ _ _

theorem regReadSound4cntH : Statement (.regReadSound4cntH) := of_read _

theorem regWriteSoundcntL (be : BitVec 2) (data : Half) : Statement (.regWriteSoundcntL be data) := of_write _ _ _

theorem regReadSoundcntL : Statement (.regReadSoundcntL) := of_read _

theorem regWriteSoundcntH (be : BitVec 2) (data : Half) : Statement (.regWriteSoundcntH be data) := of_write _ _ _

theorem regReadSoundcntH : Statement (.regReadSoundcntH) := of_read _

theorem regWriteSoundcntX (be : BitVec 2) (data : Half) : Statement (.regWriteSoundcntX be data) := of_write _ _ _

theorem regReadSoundcntX : Statement (.regReadSoundcntX) := of_read _

theorem regWriteSoundbias (be : BitVec 2) (data : Half) : Statement (.regWriteSoundbias be data) := of_write _ _ _

theorem regReadSoundbias : Statement (.regReadSoundbias) := of_read _

theorem regWriteWaveRam (k : Fin 8) (be : BitVec 2) (data : Half) : Statement (.regWriteWaveRam k be data) := of_write _ _ _

theorem regReadWaveRam (k : Fin 8) : Statement (.regReadWaveRam k) := of_read _

theorem regWriteFifoA (h : Fin 2) (be : BitVec 2) (data : Half) : Statement (.regWriteFifoA h be data) := of_write _ _ _

theorem regReadFifoA (h : Fin 2) : Statement (.regReadFifoA h) := of_read _

theorem regWriteFifoB (h : Fin 2) (be : BitVec 2) (data : Half) : Statement (.regWriteFifoB h be data) := of_write _ _ _

theorem regReadFifoB (h : Fin 2) : Statement (.regReadFifoB h) := of_read _

theorem regWriteTmcntL (n : Fin 4) (be : BitVec 2) (data : Half) : Statement (.regWriteTmcntL n be data) := of_write _ _ _

theorem regReadTmcntL (n : Fin 4) : Statement (.regReadTmcntL n) := of_read _

theorem regWriteTmcntH (n : Fin 4) (be : BitVec 2) (data : Half) : Statement (.regWriteTmcntH n be data) := of_write _ _ _

theorem regReadTmcntH (n : Fin 4) : Statement (.regReadTmcntH n) := of_read _

theorem regWriteIe (be : BitVec 2) (data : Half) : Statement (.regWriteIe be data) := of_write _ _ _

theorem regReadIe : Statement (.regReadIe) := of_read _

theorem regWriteIf (be : BitVec 2) (data : Half) : Statement (.regWriteIf be data) := of_write _ _ _

theorem regReadIf : Statement (.regReadIf) := of_read _

theorem regWriteIme (be : BitVec 2) (data : Half) : Statement (.regWriteIme be data) := of_write _ _ _

theorem regReadIme : Statement (.regReadIme) := of_read _

theorem regWriteHaltcnt (be : BitVec 2) (data : Half) : Statement (.regWriteHaltcnt be data) := of_write _ _ _

theorem regReadHaltcnt : Statement (.regReadHaltcnt) := of_read _

theorem regWriteUnmapped (haddr : BitVec 11) (be : BitVec 2) (data : Half) : Statement (.regWriteUnmapped haddr be data) := by
  unfold Statement tablePort rowInstr
  simp only [encode, wordClass_regWord, wordHaddr_regWord, wordBe_regWord, wordData_regWord]
  cases regAt haddr with
  | none => simp [Instr.port]
  | some r => exact (writeRow_port be data r).trans rfl

theorem regReadUnmapped (haddr : BitVec 11) : Statement (.regReadUnmapped haddr) := by
  unfold Statement tablePort rowInstr
  simp only [encode, wordClass_regWord, wordHaddr_regWord]
  cases regAt haddr with
  | none => simp [Instr.port]
  | some r => exact (readRow_port r).trans rfl

theorem reset : Statement (.reset) := by unfold Statement; decide

theorem runFrame : Statement (.runFrame) := by unfold Statement; decide

theorem setSpeed (m : Half) : Statement (.setSpeed m) := by
  simp [Statement, tablePort, rowInstr, encode, Instr.port]

theorem cpuHalt : Statement (.cpuHalt) := by unfold Statement; decide

theorem cpuStop : Statement (.cpuStop) := by unfold Statement; decide

theorem cpuIntrwait (mask : BitVec 14) : Statement (.cpuIntrwait mask) := by
  simp [Statement, tablePort, rowInstr, encode, Instr.port]

theorem irqRequest (bits : BitVec 14) : Statement (.irqRequest bits) := by
  simp [Statement, tablePort, rowInstr, encode, Instr.port]

theorem ringPop (pad : Bool) (count : Half) : Statement (.ringPop pad count) := by
  simp [Statement, tablePort, rowInstr, encode, Instr.port]

theorem evtPass : Statement (.evtPass) := by unfold Statement; decide

theorem evtTick : Statement (.evtTick) := by unfold Statement; decide

theorem evtTimerTick : Statement (.evtTimerTick) := by unfold Statement; decide

theorem evtTimerInc (n : Fin 4) : Statement (.evtTimerInc n) := by
  simp [Statement, tablePort, rowInstr, encode, Instr.port]

theorem evtTimerOverflow (n : Fin 4) : Statement (.evtTimerOverflow n) := by
  simp [Statement, tablePort, rowInstr, encode, Instr.port]

theorem evtFifoDrain (f : FifoId) : Statement (.evtFifoDrain f) := by
  simp [Statement, tablePort, rowInstr, encode, Instr.port]

theorem evtApuStep : Statement (.evtApuStep) := by unfold Statement; decide

theorem evtFsClock : Statement (.evtFsClock) := by unfold Statement; decide

theorem evtLengthClock : Statement (.evtLengthClock) := by unfold Statement; decide

theorem evtSweepClock : Statement (.evtSweepClock) := by unfold Statement; decide

theorem evtEnvelopeClock : Statement (.evtEnvelopeClock) := by unfold Statement; decide

theorem evtMix : Statement (.evtMix) := by unfold Statement; decide

theorem evtResample : Statement (.evtResample) := by unfold Statement; decide

theorem evtRingPush : Statement (.evtRingPush) := by unfold Statement; decide

end Sys2Proof.Laws.PortOfEncode
end

