-- ==== Sys2Proof/Laws/Timers.lean ====
section
/-! SUPPORT. What the timer operations can do: one induction principle, from which every invariant and frame of
TIMER_INC, TIMER_OVERFLOW and TIMER_TICK follows, and the bounds of the cascade. -/

namespace Sys2Proof.Machine

/-- The three updates that timer events are made of (R503-R505) keep `P`. -/
structure TimerClosed (P : State → Prop) : Prop where
  setTimer : ∀ s n t, P s → P (s.setTimer n t)
  setFlags : ∀ s n, P s → P (s.setFlags (timerFlag n))
  drain : ∀ s f, P s → P (fifoDrain f s)

theorem overflowEffects_induct {P : State → Prop} (h : TimerClosed P) (n : Fin 4) (s : State) (hs : P s) :
    P (overflowEffects n s) := by
  unfold overflowEffects
  dsimp only
  have h1 := h.setTimer s n
    { s.timer n with counter := (s.timer n).reload, overflows := (s.timer n).overflows + 1 } hs
  generalize s.setTimer n _ = s1 at *
  have h2 : P (if (s.timer n).irqEn then s1.setFlags (timerFlag n) else s1) := by
    split
    · exact h.setFlags _ _ h1
    · exact h1
  generalize (if (s.timer n).irqEn then s1.setFlags (timerFlag n) else s1) = s2 at *
  have h3 : P (if drains n s2.fifoA then fifoDrain .a s2 else s2) := by
    split
    · exact h.drain _ _ h2
    · exact h2
  generalize (if drains n s2.fifoA then fifoDrain .a s2 else s2) = s3 at *
  split
  · exact h.drain _ _ h3
  · exact h3

theorem cascadeTo_induct {P : State → Prop} {inc : Fin 4 → State → State} (hi : ∀ n s, P s → P (inc n s))
    (n : Fin 4) (s : State) (hs : P s) : P (cascadeTo inc n s) := by
  unfold cascadeTo
  split
  · dsimp only
    split
    · exact hi _ _ hs
    · exact hs
  · exact hs

theorem timerIncUpTo_induct {P : State → Prop} (h : TimerClosed P) (fuel : Nat) (n : Fin 4) (s : State)
    (hs : P s) : P (timerIncUpTo fuel n s) := by
  induction fuel generalizing n s with
  | zero => exact hs
  | succ fuel ih =>
    unfold timerIncUpTo
    split
    · exact cascadeTo_induct ih n _ (overflowEffects_induct h n s hs)
    · exact h.setTimer _ _ _ hs

theorem timerInc_induct {P : State → Prop} (h : TimerClosed P) (n : Fin 4) (s : State) (hs : P s) :
    P (timerInc n s) := timerIncUpTo_induct h 4 n s hs

theorem timerOverflow_induct {P : State → Prop} (h : TimerClosed P) (n : Fin 4) (s : State) (hs : P s) :
    P (timerOverflow n s) :=
  cascadeTo_induct (timerInc_induct h) n _ (overflowEffects_induct h n s hs)

theorem timerTickOne_induct {P : State → Prop} (h : TimerClosed P) (n : Fin 4) (s : State) (hs : P s) :
    P (timerTickOne n s) := by
  unfold timerTickOne
  dsimp only
  split
  · split
    · exact timerInc_induct h n _ (h.setTimer _ _ _ hs)
    · exact h.setTimer _ _ _ hs
  · exact hs

theorem timerTick_induct {P : State → Prop} (h : TimerClosed P) (s : State) (hs : P s) : P (timerTick s) :=
  timerTickOne_induct h 3 _ (timerTickOne_induct h 2 _ (timerTickOne_induct h 1 _ (timerTickOne_induct h 0 _ hs)))

/-- Everything a timer event can touch: timers, interrupt flags, FIFOs and the record of requests. -/
def TimerFrame (s t : State) : Prop :=
  t = { s with timers := t.timers, irq := { s.irq with flags := t.irq.flags }, fifoA := t.fifoA, fifoB := t.fifoB, out := t.out }

theorem TimerFrame.refl (s : State) : TimerFrame s s := rfl

theorem TimerFrame.closed (s : State) : TimerClosed (TimerFrame s) where
  setTimer t n x h := by
    unfold TimerFrame at *
    rw [h]
    rfl
  setFlags t n h := by
    unfold TimerFrame at *
    rw [h]
    rfl
  drain t f h := by
    unfold TimerFrame at *
    rw [fifoDrain_frame f t]
    rw [h]

/-- No timer event clears an interrupt flag (R505). -/
theorem flagsKept_closed (s : State) (k : Nat) :
    TimerClosed (fun t => s.irq.flags.getLsbD k = true → t.irq.flags.getLsbD k = true) where
  setTimer _ _ _ h := h
  setFlags t n h hk := by rw [State.setFlags_getLsbD, h hk, Bool.true_or]
  drain t f h hk := by
    rw [fifoDrain_frame f t]
    exact h hk

/-- With fuel for the timers above, TIMER_INC does not depend on how much fuel is left over (R504). -/
theorem timerIncUpTo_enough (n : Fin 4) (s : State) (a b : Nat) (ha : 4 ≤ a + n.val) (hb : 4 ≤ b + n.val) :
    timerIncUpTo a n s = timerIncUpTo b n s := by
  induction a generalizing n s b with
  | zero => have := n.isLt; omega
  | succ a ih =>
    cases b with
    | zero => have := n.isLt; omega
    | succ b =>
      unfold timerIncUpTo
      split
      · unfold cascadeTo
        split
        · dsimp only
          split
          · exact ih _ _ b (by simp; omega) (by simp; omega)
          · rfl
        · rfl
      · rfl

end Sys2Proof.Machine
end

