-- ==== Sys2Proof/Laws/Step.lean ====
section
/-! SUPPORT. How a step is made: which of its three branches it takes, and that the block's operations all answer a
next state. -/

namespace Sys2Proof.Machine

/-- Every instruction completes (R900 a): the block has no operation that stops. -/
theorem exec_next (i : Instr) (s : State) : ∃ t, exec i s = .next t := by
  cases i <;> exact ⟨_, rfl⟩

/-- A safe state makes the next move (R900). -/
theorem step_of_safe {s : State} (h : s.safe = true) : step s = nextMove s := by
  simp only [State.safe, Bool.and_eq_true, List.isEmpty_iff] at h
  simp [step, h.1, h.2]

/-- A word on a port always completes: performed or refused (R305, R900). -/
theorem present_next (p : Port) (w : Word) (s : State) : ∃ t, present p w s = .next t := by
  unfold present
  split
  · exact exec_next _ _
  · exact ⟨_, rfl⟩

/-- What a word does on a port, in the decoder's words. -/
theorem present_instr {p : Port} {w : Word} {i : Instr} (h : decode p w = .instr i) (s : State) :
    present p w s = exec i s := by
  simp [present, h]

theorem present_refused {p : Port} {w : Word} {e : ErrCode} (h : decode p w = .refused e) (s : State) :
    present p w s = .next (s.refuse p e w) := by
  simp [present, h]

/-- The emulation agent's transition, by cases (R401, R827). -/
theorem emulate_cases (s : State) :
    (s.tornDown = true ∧ emulate s = .next s) ∨
    (s.tornDown = false ∧ s.events = [] ∧ emulate s = .next (sequence s)) ∨
    (s.tornDown = false ∧ ∃ e es, s.events = e :: es ∧
      emulate s = present .internal e.word ({ s with events := es }.loadArg e.arg)) := by
  unfold emulate
  split
  · exact .inl ⟨‹_›, rfl⟩
  · rename_i h
    have h : s.tornDown = false := by simpa using h
    split
    · exact .inr (.inl ⟨h, ‹_›, rfl⟩)
    · exact .inr (.inr ⟨h, _, _, ‹_›, rfl⟩)

theorem emulate_next (s : State) : ∃ t, emulate s = .next t := by
  rcases emulate_cases s with ⟨_, h⟩ | ⟨_, _, h⟩ | ⟨_, e, es, _, h⟩
  · exact ⟨_, h⟩
  · exact ⟨_, h⟩
  · rw [h]
    exact present_next _ _ _

/-- Who acts: the sink always, every other agent unless the block is torn down or a push holds (R823, R827). -/
theorem presentExternal_cases (p : Port) (w : Word) (s : State) :
    ((s.tornDown = true ∨ s.held = true) ∧ p ≠ .sink ∧ presentExternal p w s = .next s) ∨
    ((p = .sink ∨ s.tornDown = false ∧ s.held = false) ∧ presentExternal p w s = present p w s) := by
  unfold presentExternal
  split
  · rename_i h
    simp only [Bool.and_eq_true, Bool.or_eq_true, bne_iff_ne] at h
    exact .inl ⟨h.1, h.2, rfl⟩
  · rename_i h
    refine .inr ⟨?_, rfl⟩
    by_cases hp : p = .sink
    · exact .inl hp
    · simpa [hp] using h

@[simp] theorem presentExternal_sink (w : Word) (s : State) : presentExternal .sink w s = present .sink w s := by
  simp [presentExternal]

/-- A teardown acts only between frames, and does nothing else (R114, R438, R945). -/
theorem teardown_cases (s : State) :
    ((s.sched.inFrame = true ∨ s.held = true) ∧ teardown s = s) ∨
    (s.sched.inFrame = false ∧ s.held = false ∧ teardown s = { s with tornDown := true }) := by
  unfold teardown
  split
  · rename_i h
    exact .inl ⟨by simpa using h, rfl⟩
  · rename_i h
    have h : s.sched.inFrame = false ∧ s.held = false := by simpa using h
    exact .inr ⟨h.1, h.2, rfl⟩

theorem presentExternal_next (p : Port) (w : Word) (s : State) : ∃ t, presentExternal p w s = .next t := by
  unfold presentExternal
  split
  · exact ⟨_, rfl⟩
  · exact present_next _ _ _

theorem nextMove_next (s : State) : ∃ t, nextMove s = .next t := by
  unfold nextMove
  split
  · exact emulate_next _
  · rename_i m ms _
    cases m with
    | emulate => exact emulate_next _
    | teardown => exact ⟨_, rfl⟩
    | bus w => exact presentExternal_next _ _ _
    | cpu w => exact presentExternal_next _ _ _
    | host w => exact presentExternal_next _ _ _
    | irqsrc w => exact presentExternal_next _ _ _
    | sink w => exact presentExternal_next _ _ _

/-- A state without a recorded fault always has a transition; the block never deadlocks (R900). -/
theorem step_next_of_no_fault {s : State} (h : s.faults = []) : ∃ t, step s = .next t := by
  unfold step
  rw [if_neg (by simp [h])]
  split
  · exact ⟨_, rfl⟩
  · exact nextMove_next s

end Sys2Proof.Machine
end

