-- ==== Sys2Proof/Tests/Slice0.lean ====
section
/-! SUPPORT. The model's own tests. Every expected value comes from spec/: the words are written out from the rows
of R306, R308 and R309, the effects are vectors of 95_test_vectors.md (named at each test) or examples of the rule
named. The witnesses at the end show that the hypotheses of each obligation can be met together. -/

namespace Sys2Proof.Tests

open Sys2Proof Sys2Proof.Machine Sys2Proof.Claims

/-! ## Decoding: one word of every row, with operands that are not 0 -/

theorem test_decode_regWriteSound1cntL : decode .bus 0x1060DAA5 = .instr (.regWriteSound1cntL 1 0xDAA5) := by decide
theorem test_decode_regReadSound1cntL : decode .bus 0x70600000 = .instr (.regReadSound1cntL) := by decide
theorem test_decode_regWriteSound1cntH : decode .bus 0x206278DC = .instr (.regWriteSound1cntH 2 0x78DC) := by decide
theorem test_decode_regReadSound1cntH : decode .bus 0x70620000 = .instr (.regReadSound1cntH) := by decide
theorem test_decode_regWriteSound1cntX : decode .bus 0x30641713 = .instr (.regWriteSound1cntX 3 0x1713) := by decide
theorem test_decode_regReadSound1cntX : decode .bus 0x70640000 = .instr (.regReadSound1cntX) := by decide
theorem test_decode_regWriteSound2cntL : decode .bus 0x1068B54A = .instr (.regWriteSound2cntL 1 0xB54A) := by decide
theorem test_decode_regReadSound2cntL : decode .bus 0x70680000 = .instr (.regReadSound2cntL) := by decide
theorem test_decode_regWriteSound2cntH : decode .bus 0x206C5381 = .instr (.regWriteSound2cntH 2 0x5381) := by decide
theorem test_decode_regReadSound2cntH : decode .bus 0x706C0000 = .instr (.regReadSound2cntH) := by decide
theorem test_decode_regWriteSound3cntL : decode .bus 0x3070F1B8 = .instr (.regWriteSound3cntL 3 0xF1B8) := by decide
theorem test_decode_regReadSound3cntL : decode .bus 0x70700000 = .instr (.regReadSound3cntL) := by decide
theorem test_decode_regWriteSound3cntH : decode .bus 0x10728FEF = .instr (.regWriteSound3cntH 1 0x8FEF) := by decide
theorem test_decode_regReadSound3cntH : decode .bus 0x70720000 = .instr (.regReadSound3cntH) := by decide
theorem test_decode_regWriteSound3cntX : decode .bus 0x20742E26 = .instr (.regWriteSound3cntX 2 0x2E26) := by decide
theorem test_decode_regReadSound3cntX : decode .bus 0x70740000 = .instr (.regReadSound3cntX) := by decide
theorem test_decode_regWriteSound4cntL : decode .bus 0x3078CC5D = .instr (.regWriteSound4cntL 3 0xCC5D) := by decide
theorem test_decode_regReadSound4cntL : decode .bus 0x70780000 = .instr (.regReadSound4cntL) := by decide
theorem test_decode_regWriteSound4cntH : decode .bus 0x107C6A94 = .instr (.regWriteSound4cntH 1 0x6A94) := by decide
theorem test_decode_regReadSound4cntH : decode .bus 0x707C0000 = .instr (.regReadSound4cntH) := by decide
theorem test_decode_regWriteSoundcntL : decode .bus 0x208008CB = .instr (.regWriteSoundcntL 2 0x08CB) := by decide
theorem test_decode_regReadSoundcntL : decode .bus 0x70800000 = .instr (.regReadSoundcntL) := by decide
theorem test_decode_regWriteSoundcntH : decode .bus 0x3082A702 = .instr (.regWriteSoundcntH 3 0xA702) := by decide
theorem test_decode_regReadSoundcntH : decode .bus 0x70820000 = .instr (.regReadSoundcntH) := by decide
theorem test_decode_regWriteSoundcntX : decode .bus 0x10844539 = .instr (.regWriteSoundcntX 1 0x4539) := by decide
theorem test_decode_regReadSoundcntX : decode .bus 0x70840000 = .instr (.regReadSoundcntX) := by decide
theorem test_decode_regWriteSoundbias : decode .bus 0x2088E370 = .instr (.regWriteSoundbias 2 0xE370) := by decide
theorem test_decode_regReadSoundbias : decode .bus 0x70880000 = .instr (.regReadSoundbias) := by decide
theorem test_decode_regWriteWaveRam : decode .bus 0x309A81A7 = .instr (.regWriteWaveRam 5 3 0x81A7) := by decide
theorem test_decode_regReadWaveRam : decode .bus 0x709A0000 = .instr (.regReadWaveRam 5) := by decide
theorem test_decode_regWriteFifoA : decode .bus 0x10A21FDE = .instr (.regWriteFifoA 1 1 0x1FDE) := by decide
theorem test_decode_regReadFifoA : decode .bus 0x70A20000 = .instr (.regReadFifoA 1) := by decide
theorem test_decode_regWriteFifoB : decode .bus 0x20A6BE15 = .instr (.regWriteFifoB 1 2 0xBE15) := by decide
theorem test_decode_regReadFifoB : decode .bus 0x70A60000 = .instr (.regReadFifoB 1) := by decide
theorem test_decode_regWriteTmcntL : decode .bus 0x31085C4C = .instr (.regWriteTmcntL 2 3 0x5C4C) := by decide
theorem test_decode_regReadTmcntL : decode .bus 0x71080000 = .instr (.regReadTmcntL 2) := by decide
theorem test_decode_regWriteTmcntH : decode .bus 0x110EFA83 = .instr (.regWriteTmcntH 3 1 0xFA83) := by decide
theorem test_decode_regReadTmcntH : decode .bus 0x710E0000 = .instr (.regReadTmcntH 3) := by decide
theorem test_decode_regWriteIe : decode .bus 0x220098BA = .instr (.regWriteIe 2 0x98BA) := by decide
theorem test_decode_regReadIe : decode .bus 0x72000000 = .instr (.regReadIe) := by decide
theorem test_decode_regWriteIf : decode .bus 0x320236F1 = .instr (.regWriteIf 3 0x36F1) := by decide
theorem test_decode_regReadIf : decode .bus 0x72020000 = .instr (.regReadIf) := by decide
theorem test_decode_regWriteIme : decode .bus 0x1208D528 = .instr (.regWriteIme 1 0xD528) := by decide
theorem test_decode_regReadIme : decode .bus 0x72080000 = .instr (.regReadIme) := by decide
theorem test_decode_regWriteHaltcnt : decode .bus 0x2300735F = .instr (.regWriteHaltcnt 2 0x735F) := by decide
theorem test_decode_regReadHaltcnt : decode .bus 0x73000000 = .instr (.regReadHaltcnt) := by decide
theorem test_decode_regWriteUnmapped : decode .bus 0x30861196 = .instr (.regWriteUnmapped 0x043 3 0x1196) := by decide
theorem test_decode_regReadUnmapped : decode .bus 0x70860000 = .instr (.regReadUnmapped 0x043) := by decide
theorem test_decode_reset : decode .host 0x80000000 = .instr (.reset) := by decide
theorem test_decode_runFrame : decode .host 0x81000000 = .instr (.runFrame) := by decide
theorem test_decode_setSpeed : decode .host 0x8200A55A = .instr (.setSpeed 0xA55A) := by decide
theorem test_decode_cpuHalt : decode .cpu 0x83000000 = .instr (.cpuHalt) := by decide
theorem test_decode_cpuStop : decode .cpu 0x84000000 = .instr (.cpuStop) := by decide
theorem test_decode_cpuIntrwait : decode .cpu 0x85002A55 = .instr (.cpuIntrwait 0x2A55) := by decide
theorem test_decode_irqRequest : decode .irqsrc 0x86002A55 = .instr (.irqRequest 0x2A55) := by decide
theorem test_decode_ringPop : decode .sink 0x87018003 = .instr (.ringPop true 0x8003) := by decide
theorem test_decode_evtPass : decode .internal 0xC0000000 = .instr (.evtPass) := by decide
theorem test_decode_evtTick : decode .internal 0xC1000000 = .instr (.evtTick) := by decide
theorem test_decode_evtTimerTick : decode .internal 0xC2000000 = .instr (.evtTimerTick) := by decide
theorem test_decode_evtTimerInc : decode .internal 0xC3020000 = .instr (.evtTimerInc 2) := by decide
theorem test_decode_evtTimerOverflow : decode .internal 0xC4030000 = .instr (.evtTimerOverflow 3) := by decide
theorem test_decode_evtFifoDrain : decode .internal 0xC5010000 = .instr (.evtFifoDrain .b) := by decide
theorem test_decode_evtApuStep : decode .internal 0xC6000000 = .instr (.evtApuStep) := by decide
theorem test_decode_evtFsClock : decode .internal 0xC7000000 = .instr (.evtFsClock) := by decide
theorem test_decode_evtLengthClock : decode .internal 0xC8000000 = .instr (.evtLengthClock) := by decide
theorem test_decode_evtSweepClock : decode .internal 0xC9000000 = .instr (.evtSweepClock) := by decide
theorem test_decode_evtEnvelopeClock : decode .internal 0xCA000000 = .instr (.evtEnvelopeClock) := by decide
theorem test_decode_evtMix : decode .internal 0xCB000000 = .instr (.evtMix) := by decide
theorem test_decode_evtResample : decode .internal 0xCC000000 = .instr (.evtResample) := by decide
theorem test_decode_evtRingPush : decode .internal 0xCD000000 = .instr (.evtRingPush) := by decide

/-! ## Refused words (95_test_vectors.md X10-X21, X25) -/

theorem test_refused_in_the_order_of_the_checks :
    decode .bus 0x02020008 = .refused .badBe ∧ decode .bus 0x72020001 = .refused .reservedBit ∧
    decode .bus 0x62020000 = .refused .reservedBit ∧ decode .bus 0x30850000 = .refused .reservedBit ∧
    decode .host 0x83000000 = .refused .wrongPort ∧ decode .bus 0xC6000000 = .refused .internalOnly ∧
    decode .host 0xC1000000 = .refused .internalOnly ∧ decode .internal 0xCE000000 = .refused .reservedOp ∧
    decode .host 0x88000000 = .refused .reservedOp ∧ decode .cpu 0x85004000 = .refused .reservedBit ∧
    decode .sink 0x87020010 = .refused .reservedBit ∧ decode .host 0x80010000 = .refused .reservedBit ∧
    decode .internal 0xC3040000 = .refused .reservedBit := by decide

/-- R901's values of the codes. -/
theorem test_error_values :
    [ErrCode.internalOnly, .reservedOp, .wrongPort, .badBe, .reservedBit, .badConfig, .reentrant].map errValue =
      [0x01, 0x02, 0x03, 0x04, 0x05, 0x06, 0x07] ∧ faultValue .invariant = 0x80 := by decide

/-! ## Well-formedness: one ill-formed term for each check -/

theorem test_ill_formed_write_without_a_lane : (Instr.regWriteIe 0 0x1234).wellFormed = false := by decide
theorem test_ill_formed_unmapped_write_without_a_lane : (Instr.regWriteUnmapped 0x043 0 1).wellFormed = false := by decide
theorem test_ill_formed_unmapped_write_of_a_mapped_address :
    (Instr.regWriteUnmapped 0x101 3 1).wellFormed = false := by decide
theorem test_ill_formed_unmapped_read_of_a_mapped_address : (Instr.regReadUnmapped 0x04F).wellFormed = false := by decide

/-! ## Assembler and bus split (R330-R332, M1, M3) -/

theorem test_worked_encodings :
    encode (.regWriteSound1cntX 3 0x87F8) = 0x306487F8 ∧ encode (.regWriteIf 1 0x0008) = 0x12020008 ∧
    encode .regReadIf = 0x72020000 ∧ encode (.regWriteHaltcnt 2 0) = 0x23000000 ∧
    encode (.cpuIntrwait 0x0010) = 0x85000010 ∧ encode (.ringPop true 512) = 0x87010200 ∧
    encode (.setSpeed 4) = 0x82000004 := by decide

theorem test_assembler_text :
    (Instr.regWriteHaltcnt 2 0).text = "regw HALTCNT, hi, 0x0000" ∧ (Instr.ringPop true 512).text = "pop 512, pad" ∧
    (Instr.regWriteFifoA 1 3 1).text = "regw FIFO_A+2, both, 0x0001" ∧ Instr.evtTick.text = "%tick" := by decide +kernel

theorem test_bus_split :
    (BusAccess.split (.wr32 0x100 0x00C0FFF0)).map Transaction.word = [0x3100FFF0, 0x310200C0] ∧
    (BusAccess.split (.wr8 0x0A1 0x7F)).map Transaction.word = [0x20A07F00] ∧
    (BusAccess.split (.wr8 0x203 0xFF)).map Transaction.word = [0x2202FF00] ∧
    (BusAccess.split (.wr16 0x203 0x1234)).map Transaction.word = [0x32021234] ∧
    (BusAccess.split (.rd32 0x063)).map Transaction.word = [0x70600000, 0x70620000] := by decide

/-! ## Helpers: a word performed on its port, and what it sent last -/

/-- The state after a word on a port. -/
def perform (p : Port) (w : Word) (s : State) : State :=
  match present p w s with
  | .next t => t
  | .fault _ => s
  | .refused _ => s

/-- BUS words in order. -/
def onBus (ws : List Word) (s : State) : State := ws.foldl (fun s w => perform .bus w s) s

/-- An INTERNAL word. -/
def event (w : Word) (s : State) : State := perform .internal w s

/-- The value that a REG_READ word returns. -/
def readBack (w : Word) (s : State) : Option Half :=
  match (perform .bus w s).out with
  | .readData v :: _ => some v
  | _ => none

/-- A state with IE, IF and IME. -/
def irqState (ie flags : Half) (ime : Bool) : State := { State.reset with irq := { ie := ie, flags := flags, ime := ime } }

/-- A state whose CPU is in a power state, with a wait. -/
def haltState (h : HaltState) (wait : Bool) (mask : Half) (s : State) : State :=
  { s with sched := { s.sched with halt := h, waitActive := wait, waitMask := mask } }

/-- A state with timer n's counter, reload, prescaler and accumulator, running or not. -/
def timerState (n : Fin 4) (c r : Half) (p : BitVec 2) (acc : BitVec 10) (casc irq run : Bool) (s : State) : State :=
  s.setTimer n { counter := c, reload := r, prescaler := p, cascade := casc, irqEn := irq, enable := run, preAcc := acc, overflows := 0 }

/-- A playing square channel with its volume. -/
def playing (v : BitVec 4) (duty : BitVec 2) (pos : BitVec 3) : Square :=
  { Square.reset with enabled := true, duty := duty, dutyPos := pos, env := { Envelope.reset with volume := v } }

/-- A FIFO with samples and a latch. -/
def fifoWith (q : List Byte) (latch : Byte) : Fifo := { Fifo.reset with queue := q, latch := latch }

/-- A ring of a capacity, with frames. -/
def ringState (cap : PosNat) (pol : Config.RbPolicy) (fs : List Frame) : State :=
  { State.reset with params := { State.reset.params with rbCap := cap, rbPolicy := pol }, ring := { Ring.construction with rb := fs } }

/-! ## Register rows: written at reset, read back (95_test_vectors.md, the read-back table of 2.6) -/

theorem test_SOUND1CNT_L : readBack 0x70600000 (onBus [0x3060FFFF] State.reset) = some 0x007F := by decide
theorem test_SOUND1CNT_H : readBack 0x70620000 (onBus [0x3062FFFF] State.reset) = some 0xFFC0 := by decide
theorem test_SOUND1CNT_X : readBack 0x70640000 (onBus [0x30647FFF] State.reset) = some 0x4000 := by decide
theorem test_SOUND3CNT_L : readBack 0x70700000 (onBus [0x3070FFFF] State.reset) = some 0x00E0 := by decide
theorem test_SOUND3CNT_H : readBack 0x70720000 (onBus [0x3072FFFF] State.reset) = some 0xE000 := by decide
theorem test_SOUND4CNT_L : readBack 0x70780000 (onBus [0x3078FFFF] State.reset) = some 0xFF00 := by decide
theorem test_SOUND4CNT_H : readBack 0x707C0000 (onBus [0x307C7FFF] State.reset) = some 0x40FF := by decide
theorem test_SOUNDCNT_L : readBack 0x70800000 (onBus [0x3080FFFF] State.reset) = some 0xFF77 := by decide
theorem test_SOUNDCNT_H : readBack 0x70820000 (onBus [0x3082FFFF] State.reset) = some 0x770F := by decide
theorem test_SOUNDBIAS : readBack 0x70880000 State.reset = some 0x0200 ∧
    readBack 0x70880000 (onBus [0x3088C3FF] State.reset) = some 0xC3FE := by decide
theorem test_TMCNT_H : readBack 0x71020000 (onBus [0x3102FFFF] State.reset) = some 0x00C7 := by decide

/-- T10: the reload is written, the counter is read. -/
theorem test_TMCNT_L :
    readBack 0x71080000 (onBus [0x3108C000] (timerState 2 0x1234 0 0 0 false false false State.reset)) = some 0x1234 := by
  decide

/-- R604, R605: the examples. -/
theorem test_SOUND2CNT_L : (onBus [0x30687340] State.reset).ch2 =
    { Square.reset with duty := 1, length := 64, env := { Envelope.reset with init := 7, step := 3 } } := by decide
theorem test_SOUND2CNT_H : (onBus [0x306CC400] State.reset).ch2 =
    { Square.reset with freq := 1024, lenEn := true, enabled := true, freqTimer := 4096, length := 64 } ∧
    readBack 0x706C0000 (onBus [0x306CC400] State.reset) = some 0x4000 := by decide

/-- P-W2, R608. -/
theorem test_SOUND3CNT_X : (onBus [0x30748000] State.reset).wave.enabled = false ∧
    (onBus [0x30700080, 0x30748000] State.reset).wave.enabled = true ∧
    (onBus [0x30700080, 0x30748000] State.reset).wave.freqTimer = 4096 := by decide

/-- P-W1. -/
theorem test_WAVE_RAM : (onBus [0x30902301] State.reset).wave.ram = [(16, 0x01), (17, 0x23)] ∧
    (onBus [0x30902301, 0x30700040, 0x30906745] State.reset).wave.ram = [(0, 0x45), (1, 0x67), (16, 0x01), (17, 0x23)] ∧
    readBack 0x70900000 (onBus [0x30902301, 0x30700040, 0x30906745] State.reset) = some 0x6745 := by decide

/-- M2, M3, F6. -/
theorem test_FIFO_A : (onBus [0x30A00201, 0x30A20403, 0x20A07F00] State.reset).fifoA.queue = [1, 2, 3, 4, 127] := by decide
theorem test_FIFO_A_is_write_only : readBack 0x70A00000 (onBus [0x30A04010] State.reset) = some 0 := by decide

/-- F4: the 33rd sample is discarded. -/
theorem test_FIFO_B : (onBus [0x30A63231] { State.reset with fifoB := fifoWith (List.replicate 31 7) 0 }).fifoB.queue =
    List.replicate 31 7 ++ [0x31] := by decide

/-- F3, R704: the strobe empties FIFO B, and the latch stays. -/
theorem test_SOUNDCNT_H_strobe :
    (onBus [0x30828000] { State.reset with fifoB := fifoWith [1, 2] 5, fifoA := fifoWith [3] 0 }).fifoB = fifoWith [] 5 ∧
    (onBus [0x30828000] { State.reset with fifoB := fifoWith [1, 2] 5, fifoA := fifoWith [3] 0 }).fifoA.queue = [3] := by
  decide

/-- P-F5. -/
theorem test_SOUNDCNT_X :
    readBack 0x70840000 (onBus [0x30840080, 0x3062F080, 0x306487F8, 0x3078F000, 0x307C8000] State.reset) = some 0x0089 ∧
    readBack 0x70840000 (onBus [0x30840080, 0x3062F080, 0x306487F8, 0x30840000] State.reset) = some 0 := by decide

/-- I1, I2, I3, I4. -/
theorem test_IE : readBack 0x72000000 (onBus [0x3200FFFF] State.reset) = some 0x3FFF := by decide
theorem test_IF : (onBus [0x32020011] (irqState 0 0x0019 false)).irq.flags = 0x0008 ∧
    (onBus [0x2202FF00] (irqState 0 0x3F00 false)).irq.flags = 0 := by decide
theorem test_IME : readBack 0x72080000 (onBus [0x3208FFFF] State.reset) = some 0x0001 := by decide

/-- I5, I6. -/
theorem test_HALTCNT : (onBus [0x23008000] State.reset).sched.halt = .stopped ∧
    (onBus [0x23000000] State.reset).sched.halt = .halted ∧ (onBus [0x13008000] State.reset).sched.halt = .running := by
  decide

/-- X23, X24. -/
theorem test_unmapped : onBus [0x3086FFFF] State.reset = State.reset ∧
    readBack 0x70860000 State.reset = some 0 := by decide

/-! ## Triggers and channel units -/

/-- P-SQ1. -/
theorem test_trigger_square : (onBus [0x3062F080, 0x306487F8] State.reset).ch1 =
    { Square.reset with
      duty := 2, env := { Envelope.reset with init := 15, volume := 15 }, freq := 2040, enabled := true, freqTimer := 32
      length := 64 } := by decide

/-- P-SQ2. -/
theorem test_square_sample : (playing 15 2 3).sample = -15 ∧ (playing 15 2 0).sample = 15 := by decide

/-- P-N3, P-N4. -/
theorem test_trigger_noise : (onBus [0x3078F000, 0x307C80D7] State.reset).noise.freqTimer = 917504 ∧
    (onBus [0x3078F000, 0x307C80D7] State.reset).noise.lfsr = 0x4000 ∧
    (onBus [0x3078A000, 0x307C8008] State.reset).noise.lfsr = 0x40 ∧
    (onBus [0x3078A000, 0x307C8008] State.reset).noise.sample = -10 := by decide

/-- P-N1, P-N2. -/
theorem test_lfsr : lfsrNext false 0x4000 = 0x2000 ∧ lfsrNext false 0x0001 = 0x6000 ∧ lfsrNext false 0x6000 = 0x3000 ∧
    lfsrNext true 0x40 = 0x20 ∧ lfsrNext true 0x01 = 0x60 ∧ lfsrNext true 0x06 = 0x03 := by decide

/-- R623: the table of 2.6, for nibbles 0, 1, 7, 8, 15 and the codes 0, 1, 2, 3, force. -/
theorem test_wave_sample :
    [(0x00 : Byte), 0x10, 0x70, 0x80, 0xF0].map (fun b =>
      [(0 : BitVec 2), 1, 2, 3].map (fun c =>
        { Wave.reset with enabled := true, vol := c, ram := Memory.write [] 0 b }.sample) ++
      [{ Wave.reset with enabled := true, force := true, ram := Memory.write [] 0 b }.sample]) =
    [[0, -15, -8, -4, -12], [0, -13, -7, -4, -10], [0, -1, -1, -1, -1], [0, 1, 0, 0, 0], [0, 15, 7, 3, 11]] := by decide

/-- R621: freq 2040 and freq_timer 1 reload 32 and advance the duty position; P-F1. -/
theorem test_APU_STEP :
    (event 0xC6000000 { State.reset with ch1 := { playing 15 2 7 with freq := 2040, freqTimer := 1 } }).ch1 =
      { playing 15 2 0 with freq := 2040, freqTimer := 32 } ∧
    (event 0xC6000000 { State.reset with apu := { Apu.reset with fsCounter := 8191 } }).apu =
      { Apu.reset with fsStep := 1 } := by decide

/-- P-F2: the FS_CLOCK at step 2 sweeps. -/
theorem test_FS_CLOCK :
    (event 0xC7000000
      { State.reset with
        apu := { Apu.reset with fsStep := 2 }
        ch1 := { playing 0 0 0 with freq := 1024 }
        sweep := { shift := 1, dir := false, time := 1, timer := 1 } }).ch1 = { playing 0 0 0 with freq := 1536 } := by decide

/-- P-F4. -/
theorem test_LENGTH_CLOCK : (onBus [0x3078A13F, 0x307CC000] State.reset).noise.length = 1 ∧
    (event 0xC8000000 (onBus [0x3078A13F, 0x307CC000] State.reset)).noise.enabled = false ∧
    (event 0xC8000000 (onBus [0x3078A13F, 0x307CC000] State.reset)).noise.length = 0 := by decide

/-- P-F2: the overflowing sweep clock. -/
theorem test_SWEEP_CLOCK :
    (event 0xC9000000
      { State.reset with
        ch1 := { playing 0 0 0 with freq := 1536 }
        sweep := { shift := 1, dir := false, time := 1, timer := 1 } }).ch1 =
      { playing 0 0 0 with freq := 1536, enabled := false } := by decide

/-- P-F3: 15 becomes 14, and 0 stays 0. -/
theorem test_ENVELOPE_CLOCK :
    (event 0xCA000000 (onBus [0x3062F180, 0x30648700] State.reset)).ch1.env.volume = 14 ∧
    (event 0xCA000000 (onBus [0x30620180, 0x30648700] State.reset)).ch1.env.volume = 0 := by decide

/-! ## Timers -/

/-- T8, the chain in one tick. -/
def chain : State :=
  timerState 0 0xFFFF 0 0 0 false false true (timerState 1 0xFFFF 0xFFFF 0 0 true false true
    (timerState 2 0xFFFF 0xFFFF 0 0 true false true (timerState 3 0xFFFF 0xFFFF 0 0 true true true State.reset)))

theorem test_TIMER_TICK :
    (List.finRange 4).map (fun n => ((event 0xC2000000 chain).timer n).counter) = [0x0000, 0xFFFF, 0xFFFF, 0xFFFF] ∧
    (List.finRange 4).map (fun n => ((event 0xC2000000 chain).timer n).overflows) = [1, 1, 1, 1] ∧
    (event 0xC2000000 chain).irq.flags = 0x0040 := by decide

/-- T9. -/
theorem test_TIMER_TICK_after_a_prescaler_change :
    (event 0xC2000000 (onBus [0x31060081] (timerState 1 5 0 2 100 false false true State.reset))).timer 1 =
      { counter := 6, reload := 0, prescaler := 1, cascade := false, irqEn := false, enable := true, preAcc := 0,
        overflows := 0 } := by decide

/-- T2's wrap, and one count. -/
theorem test_TIMER_INC :
    ((event 0xC3020000 (timerState 2 0xFFFF 0xFFF0 0 0 false false true State.reset)).timer 2).counter = 0xFFF0 ∧
    ((event 0xC3020000 (timerState 2 0xFFF0 0xFFF0 0 0 false false true State.reset)).timer 2).counter = 0xFFF1 := by decide

/-- R505: flag 3 + n, and the FIFO that selects timer 1. -/
theorem test_TIMER_OVERFLOW :
    (event 0xC4010000
      { timerState 1 0xFFFF 5 0 0 false true true State.reset with
        fifoA := { fifoWith [9] 0 with timer := true }, fifoB := fifoWith [8] 0 }).irq.flags = 0x0010 ∧
    (event 0xC4010000
      { timerState 1 0xFFFF 5 0 0 false true true State.reset with
        fifoA := { fifoWith [9] 0 with timer := true }, fifoB := fifoWith [8] 0 }).fifoA.latch = 9 ∧
    (event 0xC4010000
      { timerState 1 0xFFFF 5 0 0 false true true State.reset with
        fifoA := { fifoWith [9] 0 with timer := true }, fifoB := fifoWith [8] 0 }).fifoB.queue = [8] := by decide

/-- M1: the 32-bit write starts timer 0 from its new reload. -/
theorem test_TMCNT_H_start : ((onBus [0x3100FFF0, 0x310200C0] State.reset).timer 0).counter = 0xFFF0 := by decide

/-! ## FIFOs and mixer -/

/-- F2. -/
theorem test_FIFO_DRAIN :
    (event 0xC5010000 { State.reset with fifoB := fifoWith (0x81 :: List.replicate 31 7) 0 }).fifoB =
      fifoWith (List.replicate 31 7) 0x81 := by decide

/-- F5. -/
theorem test_FIFO_DRAIN_of_an_empty_fifo :
    event 0xC5000000 { State.reset with fifoA := fifoWith [] 5 } =
      { State.reset with fifoA := { fifoWith [] 5 with requests := 1 }, out := [.dmaFifoRequest .a] } := by decide

/-- X-M1, X-M2, X-M3, X-M7, X-M8: channels 1 and 2 at 15 with nibble 15 and noise 15, or one channel alone. -/
def loud (high : Bool) (psg : BitVec 2) : State :=
  { State.reset with
    params := { State.reset.params with psgRatio3 := 8 }
    apu := { Apu.reset with masterEn := true, volL := 7, enL := 15, psgRatio := psg }
    ch1 := playing 15 2 (if high then 0 else 3)
    ch2 := playing 15 2 (if high then 0 else 3)
    wave := { Wave.reset with enabled := true, vol := 1, ram := if high then [(0, 0xF0)] else [] }
    noise := { Noise.reset with enabled := true, out := high, env := { Envelope.reset with volume := 15 } } }

theorem test_MIX : mixLeft (loud true 2) = 480 ∧ mixLeft (loud false 2) = -480 ∧
    mixLeft { loud false 0 with apu := { Apu.reset with masterEn := true, enL := 1 } } = -4 ∧
    mixLeft { loud true 3 with apu := { Apu.reset with masterEn := true, volL := 7, enL := 1, psgRatio := 3 } } = 240 ∧
    mixLeft { loud true 2 with fifoA := { fifoWith [] 127 with vol := true, enL := true } } = 511 ∧
    mixLeft { loud true 2 with apu := { Apu.reset with volL := 7, enL := 15 } } = 0 := by decide

/-- X-M4, X-M5, X-M6, and that MIX hands m / 512 on. -/
theorem test_MIX_fifos :
    mixRight { loud true 0 with
      fifoA := { fifoWith [] 127 with vol := true, enR := true }, fifoB := { fifoWith [] 127 with vol := true, enR := true } } =
      508 ∧
    mixRight { loud true 0 with
      fifoA := { fifoWith [] 0x80 with vol := true, enR := true }, fifoB := { fifoWith [] 0x80 with vol := true, enR := true } } =
      -512 ∧
    mixRight { State.reset with apu := { Apu.reset with bias := 0 } } = -512 ∧
    (event 0xCB000000 (loud true 2)).resampler.prevL = 480 / 512 := by decide +kernel

/-! ## Resampler and ring (2.8) -/

/-- OUT_RATE 48000, between the inputs 0.5 and -0.5 from phase 256/375 - ... : j = 1 and 2 of the table. -/
theorem test_RESAMPLE :
    (event 0xCC000000
      { State.reset with
        params := { State.reset.params with outRate := ⟨48000, by decide⟩ }
        resampler := { prevL := 0, prevR := 0, phase := 256 / 375 }
        args := { State.reset.args with mixL := 1 / 2, mixR := 1 / 2 } }).events =
      [{ word := 0xCD000000, arg := .output ⟨0x3EAEC33E, 0x3EAEC33E⟩ }] := by decide +kernel

theorem test_round_f32 : [(128 / 375 : Rat), 101 / 750, -58 / 125, 6 / 125, 11 / 75, 1533 / 16000, 37303 / 48000, 2441 / 32000].map roundF32 =
    [0x3EAEC33E, 0x3E09E60F, 0xBEED9168, 0x3D449BA6, 0x3E162FC9, 0x3DC43958, 0x3F46F308, 0x3D9C3958] := by decide +kernel

/-- B7, B6. -/
theorem test_RING_PUSH :
    (event 0xCD000000 { ringState ⟨1, by decide⟩ .dropOldest [⟨1, 2⟩] with args := { State.reset.args with push := ⟨3, 4⟩ } }).ring =
      { rb := [⟨3, 4⟩], dropped := 1, underruns := 0 } ∧
    (event 0xCD000000 { ringState ⟨1, by decide⟩ .block [⟨1, 2⟩] with args := { State.reset.args with push := ⟨3, 4⟩ } }).ring =
      { rb := [⟨1, 2⟩], dropped := 0, underruns := 0 } := by decide

/-- B2, B4. -/
theorem test_RING_POP :
    perform .sink 0x87010003 (ringState ⟨4, by decide⟩ .block [⟨1, 2⟩]) =
      { ringState ⟨4, by decide⟩ .block [] with
        ring := { rb := [], dropped := 0, underruns := 1 }, out := [.frames [⟨1, 2⟩, ⟨0, 0⟩, ⟨0, 0⟩]] } ∧
    perform .sink 0x87000000 (ringState ⟨4, by decide⟩ .block [⟨1, 2⟩]) =
      { ringState ⟨4, by decide⟩ .block [⟨1, 2⟩] with out := [.frames []] } := by decide

/-! ## Host, CPU and interrupt commands -/

/-- X22, S6, X29. -/
theorem test_SET_SPEED : perform .host 0x82000000 State.reset = { State.reset with out := [.refused .host .badConfig 0x82000000] } ∧
    (perform .host 0x81000000 (perform .host 0x82000004 State.reset)).seq.budget = 1123584 ∧
    (perform .host 0x82000000 (perform .host 0x81000000 State.reset)).out = [.refused .host .reentrant 0x82000000] := by
  decide

/-- X28. -/
theorem test_RUN_FRAME : (perform .host 0x81000000 State.reset).sched.inFrame = true ∧
    (perform .host 0x81000000 (perform .host 0x81000000 State.reset)).out = [.refused .host .reentrant 0x81000000] := by
  decide

/-- Z2: the ring keeps its frames. -/
theorem test_RESET :
    perform .host 0x80000000
      { State.reset with
        fifoA := fifoWith [1] 2, ring := { rb := [⟨1, 2⟩], dropped := 3, underruns := 4 }
        wave := { Wave.reset with ram := [(3, 7)] } } =
      { State.reset with ring := { rb := [⟨1, 2⟩], dropped := 3, underruns := 4 } } := by decide

/-- R413-R415: a halt in a Halted or Stopped state has no effect. -/
theorem test_CPU_HALT : (perform .cpu 0x83000000 State.reset).sched.halt = .halted ∧
    (perform .cpu 0x83000000 (haltState .stopped false 0 State.reset)).sched.halt = .stopped := by decide
theorem test_CPU_STOP : (perform .cpu 0x84000000 State.reset).sched.halt = .stopped ∧
    (perform .cpu 0x84000000 (haltState .halted false 0 State.reset)).sched.halt = .halted := by decide
theorem test_CPU_INTRWAIT : perform .cpu 0x85000010 State.reset = haltState .halted true 0x0010 State.reset ∧
    perform .cpu 0x85000010 (haltState .halted false 0 State.reset) = haltState .halted false 0 State.reset := by decide

/-- `irq 0x0001` with IF = 0x0008 (2.3). -/
theorem test_IRQ_REQUEST : (perform .irqsrc 0x86000001 (irqState 0 0x0008 false)).irq.flags = 0x0009 := by decide

/-! ## Passes and ticks -/

/-- I8, I9, I13, S4. -/
theorem test_PASS : (event 0xC0000000 (haltState .halted false 0 (irqState 1 1 false))).sched.halt = .running ∧
    (event 0xC0000000 (haltState .halted true 0x0010 (irqState 0x18 0x08 true))).sched.halt = .halted ∧
    (event 0xC0000000 (haltState .halted true 0x0010 (irqState 0x18 0x18 true))).sched.waitActive = false ∧
    (event 0xC0000000 (haltState .stopped false 0 State.reset)).seq.fan = false := by decide

/-- S1, S2: what a pass charges. -/
theorem test_PASS_charges :
    (event 0xC0000000 { State.reset with env := { State.reset.env with cpu := [⟨3, []⟩] } }).seq.n = 3 ∧
    (event 0xC0000000 { haltState .halted false 0 State.reset with
      env := { State.reset.env with dma := [some ⟨2, []⟩], cpu := [⟨3, []⟩] } }).seq.n = 2 := by decide

/-- S7: the fourth tick steps the channels, the 512th mixes. -/
theorem test_TICK :
    (event 0xC1000000 { State.reset with apu := { Apu.reset with phase := 3, masterEn := true } }).apu =
      { Apu.reset with phase := 0, masterEn := true, fsCounter := 1, audioWait := 510 } ∧
    (event 0xC1000000 { State.reset with apu := { Apu.reset with audioWait := 0 } }).events =
      [{ word := 0xCD000000, arg := .output ⟨0, 0⟩ }] := by decide +kernel

/-- R430, R431: a frame end is rendered in the last sub-frame only. -/
theorem test_TICK_renders :
    (event 0xC1000000 { State.reset with env := { State.reset.env with video := [⟨true, []⟩] } }).sched.didRender = true ∧
    (event 0xC1000000
      { State.reset with
        sched := { Sched.reset with speed := 2 }, env := { State.reset.env with video := [⟨true, []⟩] } }).out = [] := by
  decide

/-- R222: pops between the words of one CPU.Step call, and between the two transactions of a 32-bit read, each see the
ring as it then is. -/
theorem test_pops_inside_a_call :
    (event 0xC0000000 { ringState ⟨4, by decide⟩ .dropOldest [⟨1, 2⟩, ⟨3, 4⟩, ⟨5, 6⟩] with
      env := { State.reset.env with
        cpu := [⟨1, [.irqsrc 0x86000001, .sink 0x87000001, .irqsrc 0x86000002, .access (.rd32 0x200) [0x87000001]]⟩] } }).out =
      [.accessData 0x00030000, .readData 3, .frames [⟨3, 4⟩], .readData 0, .frames [⟨1, 2⟩]] ∧
    (event 0xC1000000 { ringState ⟨4, by decide⟩ .dropOldest [⟨1, 2⟩] with
      env := { State.reset.env with video := [⟨false, [.irqsrc 0x86000001, .sink 0x87000001, .irqsrc 0x86000002]⟩] } }).ring.rb =
      [] := by decide

/-! ## The step -/

/-- A word placed with withFetchWord is the one the next step performs, on its row's port. -/
theorem test_step_fetches :
    step (State.reset.withFetchWord 32 0x85000010) = .next (haltState .halted true 0x0010 State.reset) ∧
    step (State.reset.withFetchWord 32 0xC3020000) = .next (State.reset.setTimer 2 { Timer.reset with counter := 1 }) ∧
    step (State.reset.withFetchWord 32 0x3208FFFF) = .next (irqState 0 0 true) := ⟨rfl, rfl, rfl⟩

/-- Nothing placed: the machine waits for a word (log 13). -/
theorem test_step_idles : step State.reset = .next State.reset := rfl

/-- R900 (c): outside the invariants the fault is recorded, and then the machine stops. -/
theorem test_step_faults :
    step { State.reset with sched := { Sched.reset with speed := 0 } } =
      .next { State.reset with sched := { Sched.reset with speed := 0 }, faults := [.invariant] } ∧
    step { State.reset with faults := [.invariant] } = .fault (.faulted [.invariant]) := ⟨rfl, rfl⟩

/-! ## Witnesses: for each obligation with hypotheses, concrete states and operands that meet them -/

theorem witness_DecodeOfEncodeIsTheInstruction : (Instr.regWriteIe 3 0x1234).wellFormed = true ∧
    (Instr.regReadUnmapped 0x7FF).wellFormed = true := by decide

theorem witness_AcceptedWordIsItsInstructionsEncoding : decode .sink 0x8701FFFF = .instr (.ringPop true 0xFFFF) := by decide

theorem witness_DecoderRefusesByFirstFailingCheck :
    failingCheck .bus 0x02020008 = some .badBe ∧ failingCheck .host 0xC1000000 = some .internalOnly ∧
    failingCheck .cpu 0x85004000 = some .reservedBit ∧ failingCheck .bus 0x72020000 = none := by decide

/-- A mapped write row, a read row, and both unmapped rows, at HADDR 0x7FF. -/
theorem witness_OpcodeTableRowsDecodeToTheirInstruction :
    (("REG_WRITE_IE", 0x02000000, 0xcfff0000) ∈ tableRows ∧ (0x32000001 : Word) &&& 0xcfff0000 = 0x02000000 ∧
      (0x32000001 : Word) &&& 0x30000000 ≠ 0) ∧
    (("RESET", 0x80000000, 0xffffffff) ∈ tableRows ∧ (0x80000000 : Word) &&& 0xffffffff = 0x80000000) ∧
    (("REG_WRITE_unmapped", 0x00000000, 0xc0010000) ∈ tableRows ∧ (0x1FFE0000 : Word) &&& 0xc0010000 = 0 ∧
      (0x1FFE0000 : Word) &&& 0x30000000 ≠ 0 ∧ regAt ((0x1FFE0000 : Word).extractLsb' 17 11) = none) ∧
    (("REG_READ_unmapped", 0x70000000, 0xf001ffff) ∈ tableRows ∧ (0x7FFE0000 : Word) &&& 0xf001ffff = 0x70000000 ∧
      regAt ((0x7FFE0000 : Word).extractLsb' 17 11) = none) := by decide

theorem witness_RegisterReadsShowMaskedStoredAndLiveBits : State.reset.invariants = true := by decide

theorem witness_RegisterWritesStoreEnabledLanesUnderMask :
    storing .sound1cntL = true ∧ storing (.waveRam 7) = true ∧ storing .ime = true := by decide

theorem witness_FlagsAreSetOnlyByRequestsAndTimers :
    exec (.irqRequest 0x2000) State.reset = .next (irqState 0 0x2000 false) ∧
    State.reset.irq.flags.getLsbD 13 = false ∧ (irqState 0 0x2000 false).irq.flags.getLsbD 13 = true := ⟨rfl, rfl, rfl⟩

/-- The write starts the timer, leaves it running, or has the low lane off. -/
theorem witness_TimerControlWriteStartsOnEnable :
    (3 : BitVec 2).getLsbD 0 = true ∧ (2 : BitVec 2).getLsbD 0 = false ∧ (State.reset.timer 3).enable = false ∧
    ((perform .bus 0x310E0080 State.reset).timer 3).enable = true ∧
    ((perform .bus 0x310E0000 (perform .bus 0x310E0080 State.reset)).timer 3).enable = false := by decide

theorem witness_TimerIncrementOverflowsFromFFFF : (State.reset.timer 0).counter ≠ 0xFFFF ∧
    (chain.timer 3).counter = 0xFFFF := by decide

/-- In `chain` the overflow of timer 0 runs up to timer 3; at reset it reaches no other timer. -/
theorem witness_TimerOverflowReloadsFlagsDrainsAndCascades :
    overflowReaches chain 0 3 = true ∧ overflowReaches State.reset 0 1 = false ∧ (chain.timer 3).irqEn = true ∧
    drainedBy State.reset 1 State.reset.fifoA = State.reset.fifoA ∧ (2 < 3 ∨ 6 < 2) := by decide

/-- With T9's timer: an accumulator above the divisor after a prescaler change; and one below, and a counter at 0xFFFF. -/
theorem witness_TimerTickStopsAndCascades :
    (State.reset.timer 2).enable = false ∧ (chain.timer 1).cascade = true ∧ (chain.timer 1).enable = true ∧
    (chain.timer 3).enable = true ∧ (chain.timer 3).cascade = true ∧
    (let t := (timerState 1 5 0 0 100 false false true State.reset).timer 1
     t.enable = true ∧ t.cascade = false ∧ ¬ t.preAcc.toNat + 1 < divTable.getD t.prescaler.toNat 0 ∧ t.counter ≠ 0xFFFF) ∧
    (let t := (timerState 1 0xFFFF 0 1 62 false false true State.reset).timer 1
     t.enable = true ∧ t.preAcc.toNat + 1 < divTable.getD t.prescaler.toNat 0 ∧ t.counter = 0xFFFF) := by decide

/-- T2 (both clauses, by k): 15 increments stay below the first overflow at 16. -/
theorem witness_BatchedTimerTicksFollowTheClosedForm :
    let s := timerState 0 0xFFF0 0xFFF0 0 0 false false true State.reset
    (s.timer 0).enable = true ∧ (s.timer 0).preAcc.toNat < divTable.getD (s.timer 0).prescaler.toNat 0 ∧
    (0 + 15) / 1 < 0x10000 - (s.timer 0).counter.toNat ∧ 0x10000 - (s.timer 0).counter.toNat ≤ (0 + 16) / 1 ∧
    ((timerState 3 5 0 3 1023 false false true State.reset).timer 3).cascade = false ∧
    ((timerState 3 5 0 3 1023 false false true State.reset).timer 3).preAcc.toNat < divTable.getD 3 0 := by decide

theorem witness_SquareTriggerRestartsTheChannel : triggers 3 0x87F8 = true ∧ triggers 2 0x8000 = true := by decide
theorem witness_WaveTriggerEnablesOnlyWhilePlaying : triggers 2 0xFFFF = true := by decide
theorem witness_NoiseTriggerSeedsTheLfsr : triggers 3 0x8008 = true ∧ (3 : BitVec 2).getLsbD 0 = true := by decide

theorem witness_ApuStepAdvancesFrequencyTimers : State.reset.apu.fsCounter.toNat ≠ 8191 ∧
    ({ Apu.reset with fsCounter := 8190 } : Apu).fsCounter.toNat ≠ 8191 := by decide
theorem witness_EveryEightThousandthApuStepClocksTheSequencer :
    ({ State.reset with apu := { Apu.reset with fsCounter := 8191 } } : State).apu.fsCounter.toNat = 8191 := by decide

theorem witness_FrameSequencerClocksUnitsByStep :
    ∀ n : BitVec 3, ({ State.reset with apu := { Apu.reset with fsStep := n } } : State).apu.fsStep.toNat ∈ [0, 4] ++ [2, 6] ++ [7] ++ [1, 3, 5] := by
  decide

/-- Each channel, triggered. -/
theorem witness_ChannelsBecomeEnabledOnlyByATrigger :
    State.reset.ch1.enabled = false ∧ (perform .bus 0x30648000 State.reset).ch1.enabled = true ∧
    State.reset.ch2.enabled = false ∧ (perform .bus 0x306C8000 State.reset).ch2.enabled = true ∧
    State.reset.noise.enabled = false ∧ (perform .bus 0x307C8000 State.reset).noise.enabled = true ∧
    (perform .bus 0x30700080 State.reset).wave.enabled = false ∧
    (perform .bus 0x30748000 (perform .bus 0x30700080 State.reset)).wave.enabled = true ∧
    exec (.regWriteSound1cntX 3 0x8000) State.reset = .next (perform .bus 0x30648000 State.reset) :=
  ⟨rfl, rfl, rfl, rfl, rfl, rfl, rfl, rfl, rfl⟩

theorem witness_ChannelSamplesStayWithinFifteen : State.reset.ch1.enabled = false ∧ State.reset.ch2.enabled = false ∧
    State.reset.wave.enabled = false ∧ State.reset.noise.enabled = false := by decide

theorem witness_FifoWritesAppendUpToThirtyTwo : (fifoWith (List.replicate 32 0) 0).queue.length ≤ 32 ∧
    (fifoWith (List.replicate 31 0) 0).queue.length ≤ 32 := by decide

theorem witness_ResampleInterpolatesAndQueuesPushes : 0 ≤ State.reset.resampler.phase := le_refl _
theorem witness_ResamplerOutputCountIsExact : State.reset.resampler.phase = 0 := rfl

/-- The bounds of every component. -/
theorem witness_ResamplerOutputsStayInRange :
    let s : State := { State.reset with
      resampler := { prevL := -1, prevR := 1, phase := 0 }, args := { State.reset.args with mixL := 1, mixR := -1 } }
    0 ≤ s.resampler.phase ∧ -1 ≤ s.resampler.prevL ∧ s.resampler.prevL ≤ 1 ∧ -1 ≤ s.resampler.prevR ∧
    s.resampler.prevR ≤ 1 ∧ -1 ≤ s.args.mixL ∧ s.args.mixL ≤ 1 ∧ -1 ≤ s.args.mixR ∧ s.args.mixR ≤ 1 ∧ s.events = [] := by
  decide +kernel

/-- The tie between 0x3F000000 (1/2) and the binary32 after it. -/
theorem witness_RoundingIsToNearestTiesToEven :
    let q : Rat := 1 / 2 + 1 / 2 ^ 25;
    (-1 : Rat) ≤ q ∧ q ≤ 1 ∧ finite32 0x3F000001 = true ∧ roundF32 q = 0x3F000000 ∧
    |f32Value (roundF32 q) - q| = |f32Value 0x3F000001 - q| ∧ f32Value 0x3F000001 ≠ f32Value (roundF32 q) := by
  decide +kernel

theorem witness_RingPushAppendsDropsOrHolds :
    (ringState ⟨1, by decide⟩ .block []).ring.rb.length < 1 ∧ 1 ≤ (ringState ⟨1, by decide⟩ .block [⟨1, 2⟩]).ring.rb.length ∧
    (ringState ⟨1, by decide⟩ .dropOldest [⟨1, 2⟩]).params.rbPolicy = .dropOldest := by decide

theorem witness_IrqRequestAndRingPopTopBits : (1 : BitVec 2) ≠ 0 ∧ (64 : BitVec 7) ≠ 0 := by decide

/-- B5: three frames, popped as two and one. -/
theorem witness_RingRoundTripReturnsFramesInOrder :
    (ringState ⟨4, by decide⟩ .block []).ring.rb = [] ∧ [(⟨1, 2⟩ : Frame), ⟨3, 4⟩, ⟨5, 6⟩].length ≤ 4 ∧
    ([(false, (2 : Half)), (true, 1)].map (fun c => c.2.toNat)).sum = [(⟨1, 2⟩ : Frame), ⟨3, 4⟩, ⟨5, 6⟩].length := by decide

/-- A full ring under Block with a held push, and the pop of one frame. -/
def held : State :=
  { ringState ⟨1, by decide⟩ .block [⟨1, 2⟩] with events := [{ word := 0xCD000000, arg := .output ⟨3, 4⟩ }] }

theorem witness_HeldPushWaitsForThePop :
    held.safe = true ∧ held.tornDown = false ∧ held.params.rbPolicy = .block ∧ held.params.rbCap.val = held.ring.rb.length ∧
    held.env.script = [] ∧ decode .sink 0x87000001 = .instr (.ringPop false 1) ∧ 0 < (1 : Half).toNat ∧
    ({ held with env := { held.env with script := [.sink 0x87000001] } } : State).safe = true ∧
    (Port.irqsrc, Move.irqsrc 0x86000001) ∈ wordMoves 0x86000001 ∧
    ({ held with env := { held.env with script := [.teardown] } } : State).safe = true := by decide

/-- R1031: an interrupt request and a register write change nothing while the push holds. -/
theorem test_held_push_stops_the_emulation_thread :
    step { held with env := { held.env with script := [.irqsrc 0x86000001] } } = .next held ∧
    step { held with env := { held.env with script := [.bus 0x32000001] } } = .next held := ⟨rfl, rfl⟩

/-- A state in a frame. -/
def inFrame : State := perform .host 0x81000000 State.reset

theorem witness_SetSpeedStoresOrRefuses : inFrame.sched.inFrame = true ∧ State.reset.sched.inFrame = false ∧
    (1 : Half) ≠ 0 := by decide
theorem witness_ResetRestoresAllButRingAndFaults : inFrame.sched.inFrame = true ∧ State.reset.sched.inFrame = false := by
  decide
theorem witness_RunFrameBeginsOneFrame : inFrame.sched.inFrame = true ∧ State.reset.sched.inFrame = false := by decide

/-- R438: a teardown cannot come inside a frame; R114: between frames it can. -/
theorem test_teardown_only_between_frames :
    step { inFrame with env := { inFrame.env with script := [.teardown] } } = .next inFrame ∧
    step { State.reset with env := { State.reset.env with script := [.teardown] } } =
      .next { State.reset with tornDown := true } := ⟨rfl, rfl⟩

/-- The last transition of a frame. -/
def lastMove : State :=
  { State.reset with
    sched := { Sched.reset with inFrame := true, i := 280896 }
    seq := { State.reset.seq with phase := .pass, budget := 280896 } }

theorem witness_FrameConsumesExactlyItsBudget :
    lastMove.frameOk ∧ lastMove.sched.inFrame = true ∧ step lastMove = .next lastMove.endFrame ∧
    lastMove.endFrame.sched.inFrame = false ∧ lastMove.safe = true ∧ lastMove.env.script = [] ∧ lastMove.events = [] := by
  refine ⟨?_, rfl, rfl, rfl, rfl, rfl, rfl⟩
  unfold State.frameOk
  decide

/-- With a RESET and a teardown still to come. -/
theorem witness_FrameTerminatesUnderDropOldest :
    let s : State := { inFrame with env := { inFrame.env with script := [.host 0x80000000, .teardown] } }
    s.safe = true ∧ s.frameOk ∧ s.sched.inFrame = true ∧ s.params.rbPolicy = .dropOldest := by
  refine ⟨rfl, ?_, rfl, rfl⟩
  unfold State.frameOk
  decide

theorem witness_PassWakesSignalsAndCharges :
    let s := haltState .halted true 0x0010 (irqState 0x18 0x18 true);
    (s.irq.ie &&& s.irq.flags ≠ 0) ∧ s.sched.halt ≠ .running ∧ (s.irq.ie &&& s.irq.flags &&& s.sched.waitMask ≠ 0) ∧
    (haltState .stopped false 0 s).sched.waitActive = false ∧
    (haltState .stopped false 0 State.reset).sched.halt = .stopped ∧ State.reset.irq.ie &&& State.reset.irq.flags = 0 ∧
    (wokenAndSignalled (haltState .stopped false 0 State.reset)).sched.halt = .stopped ∧
    (wokenAndSignalled s).sched.halt ≠ .stopped ∧ s.invariants = true := by
  decide

theorem witness_InterruptWaitHoldsThroughAPass :
    let s := haltState .halted true 0x0010 (irqState 0x18 0x08 true);
    s.sched.halt = .halted ∧ s.sched.waitActive = true ∧ s.irq.ie &&& s.irq.flags &&& s.sched.waitMask = 0 := by decide

/-- Each port, an event, and a refused word; and the sink's word while a push holds and after teardown. -/
theorem witness_StepPerformsTheDecodedInstruction :
    State.reset.safe = true ∧ State.reset.tornDown = false ∧ ¬ holding State.reset ∧ (Port.bus, Move.bus 0x32000001) ∈ wordMoves 0x32000001 ∧
    (State.reset.withFetchWord 32 0x32000001).env.script = [.bus 0x32000001] ∧ decode .bus 0x32000001 = .instr (.regWriteIe 3 1) ∧
    (State.reset.withFetchWord 32 0x83000000).env.script = [.cpu 0x83000000] ∧ decode .cpu 0x83000000 = .instr .cpuHalt ∧
    (State.reset.withFetchWord 32 0x80000000).env.script = [.host 0x80000000] ∧ decode .host 0x80000000 = .instr .reset ∧
    (State.reset.withFetchWord 32 0x86000001).env.script = [.irqsrc 0x86000001] ∧
    decode .irqsrc 0x86000001 = .instr (.irqRequest 1) ∧
    (State.reset.withFetchWord 32 0x87000001).env.script = [.sink 0x87000001] ∧
    decode .sink 0x87000001 = .instr (.ringPop false 1) ∧
    held.events = [{ word := 0xCD000000, arg := .output ⟨3, 4⟩ }] ∧ decode .internal 0xCD000000 = .instr .evtRingPush ∧
    (State.reset.withFetchWord 32 0x02020008).env.script = [.bus 0x02020008] ∧ decode .bus 0x02020008 = .refused .badBe ∧
    holding held ∧ (Port.sink, Move.sink 0x87000001) ∈ wordMoves 0x87000001 ∧
    ({ State.reset with tornDown := true } : State).safe = true :=
  ⟨rfl, rfl, fun h => absurd h.1 (by decide), by decide, rfl, rfl, rfl, rfl, rfl, rfl, rfl, rfl, rfl, rfl, rfl, rfl, rfl, rfl,
    ⟨rfl, by decide, _, _, rfl⟩, by decide, rfl⟩

theorem witness_FaultsAreRecordedAndFinal :
    ({ State.reset with sched := { Sched.reset with speed := 0 } } : State).invariants = false ∧
    ({ State.reset with faults := [.invariant] } : State).faults ≠ [] ∧
    State.reset.invariants = true ∧ step State.reset = .next State.reset := ⟨rfl, by decide, rfl, rfl⟩

theorem witness_EveryTransitionKeepsTheInvariants : step inFrame = .next (inFrame.goto .pass) ∧ inFrame.safe = true ∧
    inFrame.rangesOk = true := ⟨rfl, rfl, by decide +kernel⟩

theorem witness_ParametersAndSpeedChangeOnlyAsTheRulesSay :
    step (State.reset.withFetchWord 32 0x82000004) = .next (perform .host 0x82000004 State.reset) ∧
    (perform .host 0x82000004 State.reset).sched.speed ≠ State.reset.sched.speed := ⟨rfl, by decide⟩

/-- Two states with different rings, and a pop inside the calls of one of them. -/
theorem witness_SinkInfluencesOnlyTheRing :
    let s := ringState ⟨2, by decide⟩ .dropOldest [⟨1, 2⟩, ⟨3, 4⟩]
    let u : State := { ringState ⟨2, by decide⟩ .dropOldest [] with
      env := { State.reset.env with cpuRest := ⟨1, [.sink 0x87000001]⟩ } }
    blind s = blind u ∧ s.params.rbPolicy = .dropOldest ∧ s.ring.rb.length ≤ s.params.rbCap.val ∧
    u.ring.rb.length ≤ u.params.rbCap.val ∧ step s = .next s := ⟨rfl, rfl, by decide, by decide, rfl⟩

theorem witness_RingFramesAreConserved :
    exec .evtRingPush held = .next (perform .internal 0xCD000000 held) ∧ held.params.rbPolicy = .block ∧
    exec .evtRingPush State.reset = .next (perform .internal 0xCD000000 State.reset) ∧
    State.reset.params.rbPolicy = .dropOldest ∧
    exec (.ringPop true 3) held = .next (perform .sink 0x87010003 held) ∧
    exec .evtTick State.reset = .next (event 0xC1000000 State.reset) ∧
    exec .evtPass State.reset = .next (event 0xC0000000 State.reset) ∧
    exec .evtMix State.reset = .next (event 0xCB000000 State.reset) := ⟨rfl, rfl, rfl, rfl, rfl, rfl, rfl, rfl⟩

/-- A register read, a power request and an interrupt request. -/
theorem witness_IssuedWordsActAsAnywhereElse : State.reset.invariants = true ∧ Instr.regReadIe.port = .bus ∧
    Instr.cpuStop.port = .cpu ∧ (Instr.irqRequest 1).port = .irqsrc ∧ (Instr.ringPop true 3).port = .sink := by decide

/-- R203: a 32-bit access and its words, and what a 32-bit read delivers. -/
theorem test_bus_access_words :
    accessWords (.wr32 0x100 0x00C0FFF0) = [0x3100FFF0, 0x310200C0] ∧ accessWords (.wr8 0x0A1 0x7F) = [0x20A07F00] ∧
    accessWords (.rd32 0x063) = [0x70600000, 0x70620000] ∧ accessValue (.rd32 0x100) [0x1234, 0x5678] = some 0x56781234 := by
  decide

end Sys2Proof.Tests
end

section
/-! PROOFS. The open parameters and the speed multiplier (R9, R402, R1001): every operation of the block keeps both, but
for the two host commands RESET and SET_SPEED, which act only between frames. -/

namespace Sys2Proof

/-! ## The words of RESET and SET_SPEED (R302, R305, R308) -/

/-- What the decoder checked of a word that it accepts (R305). -/
theorem decode_instr {p : Port} {w : Word} {i : Instr} (h : decode p w = .instr i) :
    rowInstr w = some i ∧ i.port = p ∧ reservedBitSet w = false := by
  unfold decode at h
  split at h
  · cases h
  · split at h
    · cases h
    · rename_i j hrow
      split_ifs at h with hport hbe hres
      cases h
      exact ⟨hrow, not_not.mp hport, Bool.eq_false_iff.mpr hres⟩

/-- The three rows of the HOST port, by code (R308). -/
theorem rowInstr_host {w : Word} {i : Instr} (h : rowInstr w = some i) (hp : i.port = .host) :
    wordClass w = 2 ∧ (i = .reset ∧ wordOp w = 0 ∨ i = .runFrame ∨ i = .setSpeed (wordData w) ∧ wordOp w = 2) := by
  unfold rowInstr at h
  split at h
  · split at h <;> cases h
    · rw [writeRow_port] at hp
      cases hp
    · cases hp
  · split at h <;> cases h
    · rw [readRow_port] at hp
      cases hp
    · cases hp
  · rename_i hclass
    refine ⟨BitVec.eq_of_toNat_eq hclass, ?_⟩
    split at h <;> cases h
    case h_1 hop => exact .inl ⟨rfl, BitVec.eq_of_toNat_eq hop⟩
    case h_2 => exact .inr (.inl rfl)
    case h_3 hop => exact .inr (.inr ⟨rfl, BitVec.eq_of_toNat_eq hop⟩)
    all_goals cases hp
  · split at h <;> cases h <;> cases hp

/-- A CMD or EVT word from its own fields (R302, R303). -/
theorem cmdWord_fields (w : Word) : cmdWord (wordClass w) (wordOp w) (wordArg8 w) (wordData w) = w := by
  apply BitVec.eq_of_toNat_eq
  rw [cmdWord_toNat]
  unfold wordClass wordOp wordArg8 wordData
  simp only [field_toNat]
  have := w.isLt
  omega

/-- The arguments W[23:0] hold ARG8 and ARG16 (R302). -/
theorem wordArg8_of_args (w : Word) : (w.extractLsb' 0 24).extractLsb' 16 8 = wordArg8 w := by
  apply BitVec.eq_of_toNat_eq
  unfold wordArg8
  simp only [field_toNat, BitVec.extractLsb'_toNat, Nat.shiftRight_eq_div_pow]
  omega

theorem wordData_of_args (w : Word) : (w.extractLsb' 0 24).extractLsb' 0 16 = wordData w := by
  apply BitVec.eq_of_toNat_eq
  unfold wordData
  simp only [field_toNat, BitVec.extractLsb'_toNat, Nat.shiftRight_eq_div_pow]
  omega

/-- A word that RESET's row accepts is 0x80000000 (R308). -/
theorem word_of_decode_reset {w : Word} (h : decode .host w = .instr .reset) : w = 0x80000000 := by
  obtain ⟨hrow, hp, hres⟩ := decode_instr h
  obtain ⟨hclass, ⟨-, hop⟩ | h | ⟨h, -⟩⟩ := rowInstr_host hrow hp
  · have hargs : w.extractLsb' 0 24 &&& BitVec.allOnes 24 = 0 := by
      simpa [reservedBitSet, unusedArgs, hclass, hop] using hres
    rw [BitVec.and_allOnes] at hargs
    rw [← cmdWord_fields w, hclass, hop, ← wordArg8_of_args, ← wordData_of_args, hargs]
    rfl
  · cases h
  · cases h

/-- A word that SET_SPEED's row accepts is 0x8200 before its operand (R308). -/
theorem word_of_decode_setSpeed {w : Word} {m : Half} (h : decode .host w = .instr (.setSpeed m)) :
    w = 0x8200#16 ++ m := by
  obtain ⟨hrow, hp, hres⟩ := decode_instr h
  obtain ⟨hclass, ⟨h, -⟩ | h | ⟨h, hop⟩⟩ := rowInstr_host hrow hp
  · cases h
  · cases h
  · cases h
    have hargs : w.extractLsb' 0 24 &&& 0xFF0000#24 = 0 := by
      simpa [reservedBitSet, unusedArgs, hclass, hop] using hres
    have harg8 : wordArg8 w = 0 := by
      have := congrArg (BitVec.extractLsb' 16 8) hargs
      rw [BitVec.extractLsb'_and, wordArg8_of_args] at this
      exact (BitVec.and_allOnes (x := wordArg8 w)).symm.trans this
    calc w = cmdWord 2 2 0 (wordData w) := by rw [← hclass, ← hop, ← harg8, cmdWord_fields]
      _ = 0x8200#16 ++ wordData w := by
        apply BitVec.eq_of_toNat_eq
        rw [cmdWord_toNat, BitVec.toNat_append, shiftLeft_or_eq _ _ _ (wordData w).isLt]
        rfl

end Sys2Proof

namespace Sys2Proof.Machine

/-! ## What keeps the parameters and the multiplier -/

/-- `t` has the parameters and the speed multiplier of `s`. -/
def SpeedFrame (s t : State) : Prop := t.params = s.params ∧ t.sched.speed = s.sched.speed

theorem SpeedFrame.refl (s : State) : SpeedFrame s s := ⟨rfl, rfl⟩

theorem SpeedFrame.trans {s t u : State} (h : SpeedFrame s t) (k : SpeedFrame t u) : SpeedFrame s u :=
  ⟨k.1.trans h.1, k.2.trans h.2⟩

/-- A register write (R205, R211). -/
theorem writeReg_speedFrame (be : BitVec 2) (data : Half) (r : Reg) (s : State) :
    SpeedFrame s (writeReg be data r s) := by
  obtain ⟨-, -, hparams, -⟩ := writeReg_frame be data r s
  refine ⟨hparams, ?_⟩
  cases r with
  | soundcntX => simp only [writeReg, writeSoundcntX]; (repeat' split) <;> rfl
  | ime => simp only [writeReg, writeIme]; split <;> rfl
  | haltcnt => simp only [writeReg, writeHaltcnt, cpuStop, cpuHalt, State.leaveRunning]; (repeat' split) <;> rfl
  | _ => rfl

theorem leaveRunning_speedFrame (h : HaltState) (s : State) : SpeedFrame s (s.leaveRunning h) := by
  unfold State.leaveRunning
  split <;> exact ⟨rfl, rfl⟩

theorem cpuIntrwait_speedFrame (mask : BitVec 14) (s : State) : SpeedFrame s (cpuIntrwait mask s) := by
  unfold cpuIntrwait
  split <;> exact ⟨rfl, rfl⟩

/-- No word of an agent inside an oracle call touches them. -/
theorem SpeedFrame.agentClosed (s : State) : AgentClosed (SpeedFrame s) where
  write be data r t h := h.trans (writeReg_speedFrame be data r t)
  halt t h := h.trans (leaveRunning_speedFrame .halted t)
  stop t h := h.trans (leaveRunning_speedFrame .stopped t)
  wait mask t h := h.trans (cpuIntrwait_speedFrame mask t)
  request _ _ h := h
  pop _ _ _ h := h
  emit _ _ h := h

theorem performIssues_speedFrame (is : List Issue) (s : State) : SpeedFrame s (performIssues is s) :=
  performIssues_induct (SpeedFrame.agentClosed s) is s (.refl s)

theorem TimerFrame.speedFrame {s t : State} (h : TimerFrame s t) : SpeedFrame s t := by
  rw [h]
  exact ⟨rfl, rfl⟩

theorem fifoDrain_speedFrame (f : FifoId) (s : State) : SpeedFrame s (fifoDrain f s) := by
  rw [fifoDrain_frame]
  exact ⟨rfl, rfl⟩

/-! ## The sound block -/

theorem sweepClock_speedFrame (s : State) : SpeedFrame s (sweepClock s) := by
  unfold sweepClock
  dsimp only
  (repeat' split) <;> exact ⟨rfl, rfl⟩

/-- An operation that is performed under a condition. -/
theorem SpeedFrame.ite {op : State → State} (h : ∀ s, SpeedFrame s (op s)) (c : Prop) [Decidable c] (s : State) :
    SpeedFrame s (if c then op s else s) := by
  split
  · exact h s
  · exact .refl s

theorem fsClock_speedFrame (s : State) : SpeedFrame s (fsClock s) :=
  ((SpeedFrame.ite (op := lengthClock) (fun _ => ⟨rfl, rfl⟩) _ s).trans
    (SpeedFrame.ite sweepClock_speedFrame _ _)).trans
    (SpeedFrame.ite (op := envelopeClock) (fun _ => ⟨rfl, rfl⟩) _ _)

theorem apuStep_speedFrame (s : State) : SpeedFrame s (apuStep s) := by
  unfold apuStep
  dsimp only
  split
  · exact fsClock_speedFrame _
  · exact ⟨rfl, rfl⟩

theorem ringPush_speedFrame (s : State) : SpeedFrame s (ringPush s) := by
  unfold ringPush
  (repeat' split) <;> exact ⟨rfl, rfl⟩

/-! ## PASS and TICK (R420, R430) -/

theorem dmaStep_speedFrame (s : State) : SpeedFrame s (dmaStep s).2 := by
  obtain ⟨e, h⟩ | ⟨e, c, h⟩ := dmaStep_cases s
  · rw [h]
    exact ⟨rfl, rfl⟩
  · rw [h]
    exact performIssues_speedFrame c.issues { s with env := e }

theorem cpuStep_speedFrame (s : State) : SpeedFrame s (cpuStep s).2 :=
  performIssues_speedFrame _ { s with env := _ }

theorem pass_speedFrame (s : State) : SpeedFrame s (pass s) := by
  have hwake : SpeedFrame s ((s.wake (pending s.irq)).signal (pending s.irq)) := by
    obtain ⟨h, -⟩ | ⟨h, -⟩ := State.wake_cases s (pending s.irq) <;> rw [h] <;> exact ⟨rfl, rfl⟩
  have hdma := hwake.trans (dmaStep_speedFrame _)
  unfold pass passStep4
  dsimp only
  split_ifs
  · exact hwake
  · exact hdma.trans (cpuStep_speedFrame _)
  · exact hdma

theorem tickVideo_speedFrame (s : State) : SpeedFrame s (tickVideo s) := by
  have hvideo : SpeedFrame s (videoTick s).2 := performIssues_speedFrame _ { s with env := _ }
  unfold tickVideo
  dsimp only
  split <;> exact hvideo

theorem tickApu_speedFrame (s : State) : SpeedFrame s (tickApu s) := by
  unfold tickApu
  dsimp only
  split_ifs
  · exact apuStep_speedFrame { s with apu := _ }
  · exact ⟨rfl, rfl⟩
  · exact ⟨rfl, rfl⟩

theorem tickAudio_speedFrame (s : State) : SpeedFrame s (tickAudio s) := by
  unfold tickAudio
  dsimp only
  split <;> exact ⟨rfl, rfl⟩

theorem tick_speedFrame (s : State) : SpeedFrame s (tick s) :=
  (timerTick_induct (TimerFrame.closed s) s (.refl s)).speedFrame.trans
    ((tickVideo_speedFrame _).trans ((tickApu_speedFrame _).trans (tickAudio_speedFrame _)))

/-! ## Instructions and words -/

/-- Every instruction of another port than HOST keeps them. A register read, a register write without a condition, and
what only sets flags, FIFOs or queued events is seen to do so at once. -/
theorem exec_speedFrame {i : Instr} (hp : i.port ≠ .host) (s : State) : ∃ t, exec i s = .next t ∧ SpeedFrame s t := by
  cases i with
  | reset | runFrame | setSpeed m => exact absurd rfl hp
  | regWriteSoundcntX be data => exact ⟨_, rfl, writeReg_speedFrame be data .soundcntX s⟩
  | regWriteIme be data => exact ⟨_, rfl, writeReg_speedFrame be data .ime s⟩
  | regWriteHaltcnt be data => exact ⟨_, rfl, writeReg_speedFrame be data .haltcnt s⟩
  | cpuHalt => exact ⟨_, rfl, leaveRunning_speedFrame .halted s⟩
  | cpuStop => exact ⟨_, rfl, leaveRunning_speedFrame .stopped s⟩
  | cpuIntrwait mask => exact ⟨_, rfl, cpuIntrwait_speedFrame mask s⟩
  | evtPass => exact ⟨_, rfl, pass_speedFrame s⟩
  | evtTick => exact ⟨_, rfl, tick_speedFrame s⟩
  | evtTimerTick => exact ⟨_, rfl, (timerTick_induct (TimerFrame.closed s) s (.refl s)).speedFrame⟩
  | evtTimerInc n => exact ⟨_, rfl, (timerInc_induct (TimerFrame.closed s) n s (.refl s)).speedFrame⟩
  | evtTimerOverflow n => exact ⟨_, rfl, (timerOverflow_induct (TimerFrame.closed s) n s (.refl s)).speedFrame⟩
  | evtFifoDrain f => exact ⟨_, rfl, fifoDrain_speedFrame f s⟩
  | evtApuStep => exact ⟨_, rfl, apuStep_speedFrame s⟩
  | evtFsClock => exact ⟨_, rfl, fsClock_speedFrame s⟩
  | evtSweepClock => exact ⟨_, rfl, sweepClock_speedFrame s⟩
  | evtRingPush => exact ⟨_, rfl, ringPush_speedFrame s⟩
  | _ => exact ⟨_, rfl, rfl, rfl⟩

/-- A word on another port than HOST, performed or refused (R305 check 3). -/
theorem present_speedFrame {p : Port} {w : Word} {s t : State} (hp : p ≠ .host) (h : present p w s = .next t) :
    SpeedFrame s t := by
  unfold present at h
  split at h
  · rename_i i hdec
    obtain ⟨-, hport, -⟩ := decode_instr hdec
    obtain ⟨u, e, hkept⟩ := exec_speedFrame (hport ▸ hp) s
    rw [e] at h
    cases h
    exact hkept
  · cases h
    exact ⟨rfl, rfl⟩

theorem presentExternal_speedFrame {p : Port} {w : Word} {s t : State} (hp : p ≠ .host)
    (h : presentExternal p w s = .next t) : SpeedFrame s t := by
  obtain ⟨-, -, e⟩ | ⟨-, e⟩ := presentExternal_cases p w s <;> rw [e] at h
  · cases h
    exact .refl s
  · exact present_speedFrame hp h

/-! ## The host commands (R401, R402, R1001) -/

/-- The word is RESET and `v` is 1, or the word is SET_SPEED and `v` its legal operand. -/
def CommandsSpeed (w : Word) (v : Half) : Prop :=
  w = 0x80000000 ∧ v = 1 ∨ ∃ m : Half, w = 0x8200#16 ++ m ∧ m ≠ 0 ∧ v = m

/-- A host command is refused inside a frame and acts between frames (D52). -/
theorem betweenFrames_cases (i : Instr) (s : State) (op : State → State) :
    s.sched.inFrame = true ∧ betweenFrames i s op = s.refuse .host .reentrant (encode i) ∨
    s.sched.inFrame = false ∧ betweenFrames i s op = op s := by
  unfold betweenFrames
  cases s.sched.inFrame
  · exact .inr ⟨rfl, rfl⟩
  · exact .inl ⟨rfl, rfl⟩

/-- SET_SPEED refuses, or stores a multiplier other than 0 between frames (R402). -/
theorem setSpeed_cases (m : Half) (s : State) :
    (∃ e, setSpeed m s = s.refuse .host e (encode (.setSpeed m))) ∨
    s.sched.inFrame = false ∧ m ≠ 0 ∧ setSpeed m s = { s with sched := { s.sched with speed := m } } := by
  unfold setSpeed
  obtain ⟨-, e⟩ | ⟨hf, e⟩ := betweenFrames_cases (.setSpeed m) s _
  · exact .inl ⟨_, e⟩
  · rw [e]
    split_ifs with hm
    · exact .inl ⟨_, rfl⟩
    · exact .inr ⟨hf, hm, rfl⟩

/-- A HOST word keeps the parameters and the multiplier, or is a RESET or a SET_SPEED between frames, which keeps the
parameters. -/
theorem present_host_speed {w : Word} {s t : State} (h : present .host w s = .next t) :
    SpeedFrame s t ∨ t.params = s.params ∧ s.sched.inFrame = false ∧ CommandsSpeed w t.sched.speed := by
  cases hdec : decode .host w with
  | refused e =>
    rw [present_refused hdec] at h
    cases h
    exact .inl ⟨rfl, rfl⟩
  | instr i =>
    rw [present_instr hdec] at h
    obtain ⟨hrow, hp, -⟩ := decode_instr hdec
    obtain ⟨-, ⟨rfl, -⟩ | rfl | ⟨rfl, -⟩⟩ := rowInstr_host hrow hp <;> cases h
    · obtain ⟨-, e⟩ | ⟨hf, e⟩ := betweenFrames_cases .reset s resetFields <;> rw [resetBlock, e]
      · exact .inl ⟨rfl, rfl⟩
      · exact .inr ⟨rfl, hf, .inl ⟨word_of_decode_reset hdec, rfl⟩⟩
    · obtain ⟨-, e⟩ | ⟨-, e⟩ := betweenFrames_cases .runFrame s beginFrame <;>
        (rw [runFrame, e]; exact .inl ⟨rfl, rfl⟩)
    · obtain ⟨_, e⟩ | ⟨hf, hm, e⟩ := setSpeed_cases (wordData w) s <;> rw [e]
      · exact .inl ⟨rfl, rfl⟩
      · exact .inr ⟨rfl, hf, .inr ⟨wordData w, word_of_decode_setSpeed hdec, hm, rfl⟩⟩

/-! ## Transitions -/

/-- The sequencer's own transitions (R401). -/
theorem sequence_speedFrame (s : State) : SpeedFrame s (sequence s) := by
  unfold sequence
  (repeat' split) <;> exact ⟨rfl, rfl⟩

theorem emulate_speedFrame {s t : State} (h : emulate s = .next t) : SpeedFrame s t := by
  obtain ⟨-, e⟩ | ⟨-, -, e⟩ | ⟨-, ev, es, -, e⟩ := emulate_cases s <;> rw [e] at h
  · cases h
    exact .refl s
  · cases h
    exact sequence_speedFrame s
  · have hload : SpeedFrame s ({ s with events := es }.loadArg ev.arg) := by simp [SpeedFrame]
    exact hload.trans (present_speedFrame (by decide) h)

/-- A move keeps the parameters and the multiplier, unless the host presents a word before teardown. -/
theorem performMove_speedFrame {m : Move} {s t : State} (h : performMove m s = .next t) :
    SpeedFrame s t ∨ ∃ w, m = .host w ∧ s.tornDown = false ∧ present .host w s = .next t := by
  cases m with
  | emulate => exact .inl (emulate_speedFrame h)
  | bus w | cpu w | irqsrc w | sink w => exact .inl (presentExternal_speedFrame (by decide) h)
  | teardown =>
    cases h
    obtain ⟨-, e⟩ | ⟨-, -, e⟩ := teardown_cases s <;> rw [e] <;> exact .inl ⟨rfl, rfl⟩
  | host w =>
    obtain ⟨-, -, e⟩ | ⟨hact, e⟩ := presentExternal_cases .host w s <;> rw [performMove, e] at h
    · cases h
      exact .inl (.refl s)
    · obtain ⟨htorn, -⟩ := hact.resolve_left (by decide)
      exact .inr ⟨w, rfl, htorn, h⟩

/-- The three things a transition can be (R900). -/
theorem step_cases {s t : State} (h : step s = .next t) :
    t = s.raiseFault .invariant ∨ emulate s = .next t ∨
    ∃ m ms, s.env.script = m :: ms ∧ performMove m { s with env := { s.env with script := ms } } = .next t := by
  unfold step at h
  split_ifs at h
  · cases h
    exact .inl rfl
  · unfold nextMove at h
    split at h
    · exact .inr (.inl h)
    · exact .inr (.inr ⟨_, _, ‹_›, h⟩)

theorem raiseFault_speedFrame (c : FaultCode) (s : State) : SpeedFrame s (s.raiseFault c) := by
  unfold State.raiseFault
  split <;> exact ⟨rfl, rfl⟩

/-- A transition keeps the parameters and the multiplier, or is a RESET or a SET_SPEED of the host between frames. -/
theorem step_speed {s t : State} (h : step s = .next t) :
    SpeedFrame s t ∨ t.params = s.params ∧ s.sched.inFrame = false ∧ s.tornDown = false ∧
      ∃ w ms, s.env.script = .host w :: ms ∧ CommandsSpeed w t.sched.speed := by
  obtain rfl | h | ⟨m, ms, hs, h⟩ := step_cases h
  · exact .inl (raiseFault_speedFrame .invariant s)
  · exact .inl (emulate_speedFrame h)
  · obtain h | ⟨w, rfl, htorn, h⟩ := performMove_speedFrame h
    · exact .inl h
    · obtain h | ⟨hparams, hframe, hcmd⟩ := present_host_speed h
      · exact .inl h
      · exact .inr ⟨hparams, hframe, htorn, w, ms, hs, hcmd⟩

/-- Settles O57: by cases on the transition; only a HOST word decoded as RESET or SET_SPEED leaves `SpeedFrame`. -/
theorem parametersAndSpeedChangeOnlyAsTheRulesSay : Obligations.ParametersAndSpeedChangeOnlyAsTheRulesSay := by
  intro s t h
  obtain ⟨hparams, hspeed⟩ | ⟨hparams, hframe, htorn, hcmd⟩ := step_speed h
  · exact ⟨hparams, fun hne => absurd hspeed hne⟩
  · exact ⟨hparams, fun _ => ⟨hframe, htorn, hcmd⟩⟩

end Sys2Proof.Machine
end

section
/-! PROOFS. Noninterference (R222, R437): under DropOldest two states that differ only in the ring, the record of what
was sent and the words the sink presents inside the oracles' calls take the same step. -/

namespace Sys2Proof.Machine

open Sys2Proof.Claims (blind sinkless unpopped unpoppedVideo)

/-! ## States that are alike -/

/-- `s` with another ring, another record of what was sent and other answers of the oracles. -/
def State.withSink (s : State) (r : Ring) (o : List Output) (e : Env) : State :=
  { s with ring := r, out := o, env := e }

/-- `u` is `s` but for what the sink can see, change or choose. With `u` written out in this way, a condition that asks
nothing of the sink is the same by definition, and so is an update, but for its ring, its record and its answers. -/
def Alike (s u : State) : Prop := ∃ r o e, u = s.withSink r o e ∧ sinkless e = sinkless s.env

theorem alike_iff {s u : State} : Alike s u ↔ blind s = blind u := by
  constructor
  · rintro ⟨r, o, e, rfl, he⟩
    exact congrArg (s.withSink { rb := [], dropped := 0, underruns := 0 } []) he.symm
  · intro h
    have hu := congrArg (fun x : State => x.withSink u.ring u.out u.env) h.symm
    exact ⟨u.ring, u.out, u.env, hu, (congrArg State.env h).symm⟩

theorem Alike.refl (s : State) : Alike s s := alike_iff.mpr rfl

theorem Alike.symm {s u : State} (h : Alike s u) : Alike u s := alike_iff.mpr (alike_iff.mp h).symm

theorem Alike.trans {s t u : State} (h : Alike s t) (k : Alike t u) : Alike s u :=
  alike_iff.mpr ((alike_iff.mp h).trans (alike_iff.mp k))

/-- A choice that alike states make alike. -/
theorem Alike.ite {c d : Prop} [Decidable c] [Decidable d] {s u s' u' : State} (hc : c ↔ d) (h : Alike s u)
    (h' : Alike s' u') : Alike (if c then s else s') (if d then u else u') := by
  simp only [hc]
  split
  · exact h
  · exact h'

/-- A part of the state that the sink has no part in is the same. -/
theorem Alike.same {α : Type} (f : State → α) {s u : State} (h : Alike s u)
    (hf : ∀ r o e, f (s.withSink r o e) = f s := by intros; rfl) : f u = f s := by
  obtain ⟨r, o, e, rfl, -⟩ := h
  exact hf r o e

/-- A change of the APU-wide state by what it was. -/
theorem Alike.mapApu (f : Apu → Apu) {s u : State} (h : Alike s u) :
    Alike { s with apu := f s.apu } { u with apu := f u.apu } := by
  obtain ⟨r, o, e, rfl, he⟩ := h
  exact ⟨_, _, _, rfl, he⟩

/-- What is sent goes to the record only. -/
theorem alike_emit (s : State) (o : Output) : Alike s (s.emit o) := ⟨_, _, _, rfl, rfl⟩

theorem refuse_alike (p : Port) (c : ErrCode) (w : Word) {s u : State} (h : Alike s u) :
    Alike (s.refuse p c w) (u.refuse p c w) :=
  (alike_emit s _).symm.trans (h.trans (alike_emit u _))

/-! ## Words -/

theorem leaveRunning_alike (x : HaltState) {s u : State} (h : Alike s u) :
    Alike (s.leaveRunning x) (u.leaveRunning x) := by
  obtain ⟨r, o, e, rfl, he⟩ := h
  exact .ite .rfl ⟨_, _, _, rfl, he⟩ ⟨_, _, _, rfl, he⟩

theorem cpuIntrwait_alike (mask : BitVec 14) {s u : State} (h : Alike s u) :
    Alike (cpuIntrwait mask s) (cpuIntrwait mask u) := by
  obtain ⟨r, o, e, rfl, he⟩ := h
  exact .ite .rfl ⟨_, _, _, rfl, he⟩ ⟨_, _, _, rfl, he⟩

/-- A register write (R205); the three that begin with a condition are followed through it. -/
theorem writeReg_alike (be : BitVec 2) (data : Half) (x : Reg) {s u : State} (h : Alike s u) :
    Alike (writeReg be data x s) (writeReg be data x u) := by
  have h' := h
  obtain ⟨r, o, e, rfl, he⟩ := h
  cases x with
  | soundcntX =>
    have hoff : Alike (disableChannels s) (disableChannels (s.withSink r o e)) := ⟨_, _, _, rfl, he⟩
    have hset := Alike.ite (c := (s.apu.masterEn && !data.getLsbD 7) = true) .rfl hoff h'
    exact .ite .rfl (hset.mapApu fun a => { a with masterEn := data.getLsbD 7 }) h'
  | ime => exact .ite .rfl ⟨_, _, _, rfl, he⟩ h'
  | haltcnt => exact .ite .rfl (.ite .rfl (leaveRunning_alike .stopped h') (leaveRunning_alike .halted h')) h'
  | _ => exact ⟨_, _, _, rfl, he⟩

/-- An instruction inside an oracle call. A read sends what it reads, which goes to the record; a pop takes from the
ring and sends the frames. -/
theorem agentExec_alike (i : Instr) {s u : State} (h : Alike s u) : Alike (agentExec i s) (agentExec i u) := by
  cases i with
  | regWriteSoundcntX be data => exact writeReg_alike be data .soundcntX h
  | regWriteIme be data => exact writeReg_alike be data .ime h
  | regWriteHaltcnt be data => exact writeReg_alike be data .haltcnt h
  | cpuHalt => exact leaveRunning_alike .halted h
  | cpuStop => exact leaveRunning_alike .stopped h
  | cpuIntrwait mask => exact cpuIntrwait_alike mask h
  | _ =>
    obtain ⟨r, o, e, rfl, he⟩ := h
    exact ⟨_, _, _, rfl, he⟩

theorem agentWord_alike (p : Port) (w : Word) {s u : State} (h : Alike s u) :
    Alike (agentWord p w s) (agentWord p w u) := by
  unfold agentWord
  cases decode p w with
  | instr i => exact agentExec_alike i h
  | refused c => exact refuse_alike p c w h

theorem agentWords_alike (p : Port) (ws : List Word) {s u : State} (h : Alike s u) :
    Alike (agentWords p ws s) (agentWords p ws u) := by
  unfold agentWords
  induction ws generalizing s u with
  | nil => exact h
  | cons w ws ih => exact ih (agentWord_alike p w h)

/-- The one row of the SINK port is RING_POP (R308). -/
theorem eq_ringPop_of_port_sink {i : Instr} (h : i.port = .sink) : ∃ pad count, i = .ringPop pad count := by
  cases i with
  | ringPop pad count => exact ⟨pad, count, rfl⟩
  | _ => cases h

/-- The sink's words act on the ring and the record only. -/
theorem agentWord_sink_alike (w : Word) (s : State) : Alike s (agentWord .sink w s) := by
  unfold agentWord
  split
  · rename_i i hdec
    obtain ⟨-, hport, -⟩ := decode_instr hdec
    obtain ⟨pad, count, rfl⟩ := eq_ringPop_of_port_sink hport
    exact ⟨_, _, _, rfl, rfl⟩
  · exact alike_emit s _

theorem agentWords_sink_alike (ws : List Word) (s : State) : Alike s (agentWords .sink ws s) := by
  unfold agentWords
  induction ws generalizing s with
  | nil => exact .refl s
  | cons w ws ih => exact (agentWord_sink_alike w s).trans (ih _)

/-! ## Oracle calls -/

/-- A bus access acts as the words of its split; what it delivers, and the sink's words between, are not seen (R203). -/
theorem performAccess_alike_words (a : BusAccess) (between : List Word) (s : State) :
    Alike (agentWords .bus ((a.split.map Transaction.word).drop 1)
      (agentWords .bus ((a.split.map Transaction.word).take 1) s)) (performAccess a between s) := by
  have h := agentWords_alike .bus ((a.split.map Transaction.word).drop 1)
    (agentWords_sink_alike between (agentWords .bus ((a.split.map Transaction.word).take 1) s))
  unfold performAccess
  dsimp only
  split
  · exact h.trans (alike_emit _ _)
  · exact h

theorem performAccess_alike (a : BusAccess) (ws ws' : List Word) {s u : State} (h : Alike s u) :
    Alike (performAccess a ws s) (performAccess a ws' u) :=
  (performAccess_alike_words a ws s).symm.trans
    ((agentWords_alike .bus _ (agentWords_alike .bus _ h)).trans (performAccess_alike_words a ws' u))

/-- What an oracle call does, the sink's words left out of it on one side. -/
theorem performIssues_unpopped_alike (xs : List Issue) {s u : State} (h : Alike s u) :
    Alike (performIssues xs s) (performIssues (unpopped xs) u) := by
  induction xs generalizing s u with
  | nil => exact h
  | cons x xs ih =>
    cases x with
    | sink w => exact ih ((agentWord_sink_alike w s).symm.trans h)
    | access a between => exact ih (performAccess_alike a between [] h)
    | bus w => exact ih (agentWord_alike .bus w h)
    | cpu w => exact ih (agentWord_alike .cpu w h)
    | irqsrc w => exact ih (agentWord_alike .irqsrc w h)

/-- Calls that differ only in the sink's words do the same. -/
theorem performIssues_alike {xs ys : List Issue} (hxy : unpopped xs = unpopped ys) {s u : State} (h : Alike s u) :
    Alike (performIssues xs s) (performIssues ys u) := by
  have hy := performIssues_unpopped_alike ys (.refl u)
  rw [← hxy] at hy
  exact (performIssues_unpopped_alike xs h).trans hy.symm

theorem unpopped_toIssue (xs : List VideoIssue) :
    unpopped (xs.map VideoIssue.toIssue) = (unpoppedVideo xs).map VideoIssue.toIssue := by
  induction xs with
  | nil => rfl
  | cons x xs ih =>
    cases x with
    | sink w => exact ih
    | irqsrc w => exact congrArg (Issue.irqsrc w :: ·) ih

/-! ## The oracles' answers -/

/-- An answer of the CPU or the DMA engine without the sink's words. -/
def Call.sinkless (c : Call) : Call := { c with issues := unpopped c.issues }

theorem Call.sinkless_inj {c d : Call} (h : c.sinkless = d.sinkless) :
    c.cost = d.cost ∧ unpopped c.issues = unpopped d.issues := Call.mk.inj h

/-- An answer of the video stepper without the sink's words. -/
def VideoTick.sinkless (v : VideoTick) : VideoTick := { v with issues := unpoppedVideo v.issues }

theorem VideoTick.sinkless_inj {v w : VideoTick} (h : v.sinkless = w.sinkless) :
    v.frameEnd = w.frameEnd ∧ unpoppedVideo v.issues = unpoppedVideo w.issues := VideoTick.mk.inj h

/-- `Claims.sinkless`, answer by answer. -/
theorem sinkless_eq (e : Env) : sinkless e =
    { e with
      cpu := e.cpu.map Call.sinkless, cpuRest := e.cpuRest.sinkless
      dma := e.dma.map (Option.map Call.sinkless), dmaRest := e.dmaRest.map Call.sinkless
      video := e.video.map VideoTick.sinkless, videoRest := e.videoRest.sinkless } := rfl

/-- Two lists of answers that look alike under `f` give answers that do, and leave such lists (log 2). -/
theorem nextAnswer_congr {α β : Type} (f : α → β) {as bs : List α} {a b : α} (hlist : as.map f = bs.map f)
    (hrest : f a = f b) :
    f (nextAnswer as a).1 = f (nextAnswer bs b).1 ∧ (nextAnswer as a).2.map f = (nextAnswer bs b).2.map f := by
  cases as <;> cases bs <;> simp_all [nextAnswer]

theorem cpuStep_alike {s u : State} (h : Alike s u) :
    (cpuStep u).1 = (cpuStep s).1 ∧ Alike (cpuStep s).2 (cpuStep u).2 := by
  obtain ⟨r, o, e, rfl, he⟩ := h
  rw [sinkless_eq, sinkless_eq] at he
  obtain ⟨hcall, hcalls⟩ := nextAnswer_congr Call.sinkless (congrArg Env.cpu he) (congrArg Env.cpuRest he)
  have henv := congrArg₂ (fun (x : Env) cpu => { x with cpu := cpu }) he hcalls
  obtain ⟨hcost, hissues⟩ := Call.sinkless_inj hcall
  exact ⟨hcost, performIssues_alike hissues.symm ⟨r, o, _, rfl, henv⟩⟩

theorem dmaStep_alike {s u : State} (h : Alike s u) :
    (dmaStep u).1 = (dmaStep s).1 ∧ Alike (dmaStep s).2 (dmaStep u).2 := by
  obtain ⟨r, o, e, rfl, he⟩ := h
  rw [sinkless_eq, sinkless_eq] at he
  obtain ⟨hcall, hcalls⟩ :=
    nextAnswer_congr (Option.map Call.sinkless) (congrArg Env.dma he) (congrArg Env.dmaRest he)
  have henv := congrArg₂ (fun (x : Env) dma => { x with dma := dma }) he hcalls
  unfold dmaStep
  dsimp only [State.withSink]
  cases hs : (nextAnswer s.env.dma s.env.dmaRest).1 <;> cases hu : (nextAnswer e.dma e.dmaRest).1 <;>
    simp only [hs, hu, Option.map_none, Option.map_some, reduceCtorEq, Option.some.injEq] at hcall
  case none.none => exact ⟨rfl, _, _, _, rfl, henv⟩
  case some.some =>
    obtain ⟨hcost, hissues⟩ := Call.sinkless_inj hcall
    exact ⟨hcost, performIssues_alike hissues.symm ⟨r, o, _, rfl, henv⟩⟩

theorem videoTick_alike {s u : State} (h : Alike s u) :
    (videoTick u).1 = (videoTick s).1 ∧ Alike (videoTick s).2 (videoTick u).2 := by
  obtain ⟨r, o, e, rfl, he⟩ := h
  rw [sinkless_eq, sinkless_eq] at he
  obtain ⟨hcall, hcalls⟩ :=
    nextAnswer_congr VideoTick.sinkless (congrArg Env.video he) (congrArg Env.videoRest he)
  have henv := congrArg₂ (fun (x : Env) video => { x with video := video }) he hcalls
  obtain ⟨hend, hissues⟩ := VideoTick.sinkless_inj hcall
  refine ⟨hend, performIssues_alike ?_ ⟨r, o, _, rfl, henv⟩⟩
  rw [unpopped_toIssue, unpopped_toIssue]
  exact congrArg (List.map VideoIssue.toIssue) hissues.symm

theorem passResult_alike {m n : Nat} (hn : m = n) (fan : Bool) {s u : State} (h : Alike s u) :
    Alike (s.passResult m fan) (u.passResult n fan) := by
  obtain ⟨r, o, e, rfl, he⟩ := h
  exact ⟨_, _, _, by rw [hn]; rfl, he⟩

theorem passStep4_alike {s u : State} (h : Alike s u) : Alike (passStep4 s) (passStep4 u) := by
  obtain ⟨hd, h⟩ := dmaStep_alike h
  obtain ⟨hc, h'⟩ := cpuStep_alike h
  exact .ite (by rw [h.same State.sched]) (passResult_alike (by rw [hd, hc]) true h')
    (passResult_alike (by rw [hd]) true h)

theorem wake_alike (pend : Half) {s u : State} (h : Alike s u) : Alike (s.wake pend) (u.wake pend) := by
  obtain ⟨r, o, e, rfl, he⟩ := h
  exact .ite .rfl ⟨_, _, _, rfl, he⟩ ⟨_, _, _, rfl, he⟩

theorem signal_alike (pend : Half) {s u : State} (h : Alike s u) : Alike (s.signal pend) (u.signal pend) := by
  obtain ⟨r, o, e, rfl, he⟩ := h
  exact ⟨_, _, _, rfl, he⟩

theorem pass_alike {s u : State} (h : Alike s u) : Alike (pass s) (pass u) := by
  have hsignal := signal_alike (pending s.irq) (wake_alike (pending s.irq) h)
  unfold pass
  rw [h.same State.irq]
  exact .ite (by rw [hsignal.same State.sched]) (passResult_alike rfl false hsignal) (passStep4_alike hsignal)

/-! ## The timers and the sound block -/

theorem fifoDrain_alike (f : FifoId) {s u : State} (h : Alike s u) : Alike (fifoDrain f s) (fifoDrain f u) := by
  obtain ⟨r, o, e, rfl, he⟩ := h
  cases f <;> exact .ite .rfl ⟨_, _, _, rfl, he⟩ ⟨_, _, _, rfl, he⟩

theorem drained_alike (n : Fin 4) (f : FifoId) {s u : State} (h : Alike s u) :
    Alike (if drains n (s.fifo f) then fifoDrain f s else s) (if drains n (u.fifo f) then fifoDrain f u else u) :=
  .ite (by rw [h.same (State.fifo · f)]) (fifoDrain_alike f h) h

theorem setTimer_alike (n : Fin 4) (x : Timer) {s u : State} (h : Alike s u) :
    Alike (s.setTimer n x) (u.setTimer n x) := by
  obtain ⟨r, o, e, rfl, he⟩ := h
  exact ⟨_, _, _, rfl, he⟩

theorem setFlags_alike (bits : Half) {s u : State} (h : Alike s u) : Alike (s.setFlags bits) (u.setFlags bits) := by
  obtain ⟨r, o, e, rfl, he⟩ := h
  exact ⟨_, _, _, rfl, he⟩

theorem overflowEffects_alike (n : Fin 4) {s u : State} (h : Alike s u) :
    Alike (overflowEffects n s) (overflowEffects n u) := by
  have hcount := setTimer_alike n
    { s.timer n with counter := (s.timer n).reload, overflows := (s.timer n).overflows + 1 } h
  have hflag := Alike.ite (c := (s.timer n).irqEn = true) .rfl (setFlags_alike (timerFlag n) hcount) hcount
  unfold overflowEffects
  rw [h.same (State.timer · n)]
  exact drained_alike n .b (drained_alike n .a hflag)

theorem cascadeTo_alike {inc : Fin 4 → State → State} (hinc : ∀ n s u, Alike s u → Alike (inc n s) (inc n u))
    (n : Fin 4) {s u : State} (h : Alike s u) : Alike (cascadeTo inc n s) (cascadeTo inc n u) := by
  unfold cascadeTo
  split
  · have h' := h
    obtain ⟨r, o, e, rfl, he⟩ := h
    exact .ite .rfl (hinc _ _ _ h') h'
  · exact h

theorem timerIncUpTo_alike (fuel : Nat) (n : Fin 4) {s u : State} (h : Alike s u) :
    Alike (timerIncUpTo fuel n s) (timerIncUpTo fuel n u) := by
  induction fuel generalizing n s u with
  | zero => exact h
  | succ fuel ih =>
    have hov := cascadeTo_alike (fun m _ _ => ih m) n (overflowEffects_alike n h)
    obtain ⟨r, o, e, rfl, he⟩ := h
    exact .ite .rfl hov ⟨_, _, _, rfl, he⟩

theorem timerInc_alike (n : Fin 4) {s u : State} (h : Alike s u) : Alike (timerInc n s) (timerInc n u) :=
  timerIncUpTo_alike 4 n h

theorem timerOverflow_alike (n : Fin 4) {s u : State} (h : Alike s u) : Alike (timerOverflow n s) (timerOverflow n u) :=
  cascadeTo_alike (fun m _ _ => timerInc_alike m) n (overflowEffects_alike n h)

theorem timerTickOne_alike (n : Fin 4) {s u : State} (h : Alike s u) : Alike (timerTickOne n s) (timerTickOne n u) := by
  have h' := h
  obtain ⟨r, o, e, rfl, he⟩ := h
  exact .ite .rfl (.ite .rfl (timerInc_alike n ⟨_, _, _, rfl, he⟩) ⟨_, _, _, rfl, he⟩) h'

theorem timerTick_alike {s u : State} (h : Alike s u) : Alike (timerTick s) (timerTick u) :=
  timerTickOne_alike 3 (timerTickOne_alike 2 (timerTickOne_alike 1 (timerTickOne_alike 0 h)))

theorem sweepClock_alike {s u : State} (h : Alike s u) : Alike (sweepClock s) (sweepClock u) := by
  obtain ⟨r, o, e, rfl, he⟩ := h
  exact .ite .rfl ⟨_, _, _, rfl, he⟩ (.ite .rfl ⟨_, _, _, rfl, he⟩
    (.ite .rfl ⟨_, _, _, rfl, he⟩ (.ite .rfl ⟨_, _, _, rfl, he⟩ ⟨_, _, _, rfl, he⟩)))

theorem lengthClock_alike {s u : State} (h : Alike s u) : Alike (lengthClock s) (lengthClock u) := by
  obtain ⟨r, o, e, rfl, he⟩ := h
  exact ⟨_, _, _, rfl, he⟩

theorem envelopeClock_alike {s u : State} (h : Alike s u) : Alike (envelopeClock s) (envelopeClock u) := by
  obtain ⟨r, o, e, rfl, he⟩ := h
  exact ⟨_, _, _, rfl, he⟩

theorem fsClock_alike {s u : State} (h : Alike s u) : Alike (fsClock s) (fsClock u) := by
  have hlength := Alike.ite (c := s.apu.fsStep.toNat % 2 = 0) .rfl (lengthClock_alike h) h
  have hsweep := Alike.ite (c := s.apu.fsStep.toNat % 4 = 2) .rfl (sweepClock_alike hlength) hlength
  have henvelope := Alike.ite (c := s.apu.fsStep.toNat = 7) .rfl (envelopeClock_alike hsweep) hsweep
  unfold fsClock
  rw [h.same State.apu]
  exact henvelope.mapApu fun a => { a with fsStep := a.fsStep + 1 }

theorem apuStep_alike {s u : State} (h : Alike s u) : Alike (apuStep s) (apuStep u) := by
  obtain ⟨r, o, e, rfl, he⟩ := h
  exact .ite .rfl (fsClock_alike ⟨_, _, _, rfl, he⟩) ⟨_, _, _, rfl, he⟩

/-- Under DropOldest a push changes the ring only (R821). -/
theorem alike_ringPush {s : State} (h : s.params.rbPolicy = .dropOldest) : Alike s (ringPush s) := by
  unfold ringPush
  split
  · exact ⟨_, _, _, rfl, rfl⟩
  · rw [h]
    exact ⟨_, _, _, rfl, rfl⟩

theorem tickApu_alike {s u : State} (h : Alike s u) : Alike (tickApu s) (tickApu u) := by
  obtain ⟨r, o, e, rfl, he⟩ := h
  exact .ite .rfl (.ite .rfl (apuStep_alike ⟨_, _, _, rfl, he⟩) ⟨_, _, _, rfl, he⟩) ⟨_, _, _, rfl, he⟩

theorem tickAudio_alike {s u : State} (h : Alike s u) : Alike (tickAudio s) (tickAudio u) := by
  obtain ⟨r, o, e, rfl, he⟩ := h
  exact .ite .rfl ⟨_, _, _, rfl, he⟩ ⟨_, _, _, rfl, he⟩

theorem tickVideo_alike {s u : State} (h : Alike s u) : Alike (tickVideo s) (tickVideo u) := by
  obtain ⟨hend, hvideo⟩ := videoTick_alike h
  refine .ite (by rw [hend, hvideo.same State.sched]) ?_ hvideo
  obtain ⟨r, o, e, hu, he⟩ := hvideo
  rw [hu]
  exact ⟨_, _, _, rfl, he⟩

theorem tick_alike {s u : State} (h : Alike s u) : Alike (tick s) (tick u) :=
  tickAudio_alike (tickApu_alike (tickVideo_alike (timerTick_alike h)))

/-! ## Instructions and transitions -/

theorem betweenFrames_alike (i : Instr) {op : State → State} {s u : State} (hop : Alike (op s) (op u))
    (h : Alike s u) : Alike (betweenFrames i s op) (betweenFrames i u op) :=
  .ite (by rw [h.same State.sched]) (refuse_alike .host .reentrant (encode i) h) hop

theorem resetBlock_alike {s u : State} (h : Alike s u) : Alike (resetBlock s) (resetBlock u) := by
  refine betweenFrames_alike .reset ?_ h
  obtain ⟨r, o, e, rfl, he⟩ := h
  exact ⟨_, _, _, rfl, he⟩

theorem runFrame_alike {s u : State} (h : Alike s u) : Alike (runFrame s) (runFrame u) := by
  refine betweenFrames_alike .runFrame ?_ h
  obtain ⟨r, o, e, rfl, he⟩ := h
  exact ⟨_, _, _, rfl, he⟩

theorem setSpeed_alike (m : Half) {s u : State} (h : Alike s u) : Alike (setSpeed m s) (setSpeed m u) := by
  refine betweenFrames_alike (.setSpeed m) ?_ h
  obtain ⟨r, o, e, rfl, he⟩ := h
  exact .ite .rfl ⟨_, _, _, rfl, he⟩ ⟨_, _, _, rfl, he⟩

theorem raiseFault_alike (c : FaultCode) {s u : State} (h : Alike s u) : Alike (s.raiseFault c) (u.raiseFault c) := by
  have h' := h
  obtain ⟨r, o, e, rfl, he⟩ := h
  exact .ite .rfl h' ⟨_, _, _, rfl, he⟩

/-- Every instruction does the same to states that are alike. -/
theorem exec_alike (i : Instr) {s u : State} (h : Alike s u) (hs : s.params.rbPolicy = .dropOldest) :
    ∃ t v, exec i s = .next t ∧ exec i u = .next v ∧ Alike t v := by
  cases i with
  | regWriteSoundcntX be data => exact ⟨_, _, rfl, rfl, writeReg_alike be data .soundcntX h⟩
  | regWriteIme be data => exact ⟨_, _, rfl, rfl, writeReg_alike be data .ime h⟩
  | regWriteHaltcnt be data => exact ⟨_, _, rfl, rfl, writeReg_alike be data .haltcnt h⟩
  | cpuHalt => exact ⟨_, _, rfl, rfl, leaveRunning_alike .halted h⟩
  | cpuStop => exact ⟨_, _, rfl, rfl, leaveRunning_alike .stopped h⟩
  | cpuIntrwait mask => exact ⟨_, _, rfl, rfl, cpuIntrwait_alike mask h⟩
  | reset => exact ⟨_, _, rfl, rfl, resetBlock_alike h⟩
  | runFrame => exact ⟨_, _, rfl, rfl, runFrame_alike h⟩
  | setSpeed m => exact ⟨_, _, rfl, rfl, setSpeed_alike m h⟩
  | evtPass => exact ⟨_, _, rfl, rfl, pass_alike h⟩
  | evtTick => exact ⟨_, _, rfl, rfl, tick_alike h⟩
  | evtTimerTick => exact ⟨_, _, rfl, rfl, timerTick_alike h⟩
  | evtTimerInc n => exact ⟨_, _, rfl, rfl, timerInc_alike n h⟩
  | evtTimerOverflow n => exact ⟨_, _, rfl, rfl, timerOverflow_alike n h⟩
  | evtFifoDrain f => exact ⟨_, _, rfl, rfl, fifoDrain_alike f h⟩
  | evtApuStep => exact ⟨_, _, rfl, rfl, apuStep_alike h⟩
  | evtFsClock => exact ⟨_, _, rfl, rfl, fsClock_alike h⟩
  | evtSweepClock => exact ⟨_, _, rfl, rfl, sweepClock_alike h⟩
  | evtRingPush =>
    have hu : u.params.rbPolicy = .dropOldest := by rw [h.same State.params, hs]
    exact ⟨_, _, rfl, rfl, (alike_ringPush hs).symm.trans (h.trans (alike_ringPush hu))⟩
  | _ =>
    obtain ⟨r, o, e, rfl, he⟩ := h
    exact ⟨_, _, rfl, rfl, _, _, _, rfl, he⟩

theorem present_alike (p : Port) (w : Word) {s u : State} (h : Alike s u) (hs : s.params.rbPolicy = .dropOldest) :
    ∃ t v, present p w s = .next t ∧ present p w u = .next v ∧ Alike t v := by
  unfold present
  cases decode p w with
  | instr i => exact exec_alike i h hs
  | refused c => exact ⟨_, _, rfl, rfl, refuse_alike p c w h⟩

theorem presentExternal_alike (p : Port) (w : Word) {s u : State} (h : Alike s u)
    (hs : s.params.rbPolicy = .dropOldest) :
    ∃ t v, presentExternal p w s = .next t ∧ presentExternal p w u = .next v ∧ Alike t v := by
  have hu : u.params.rbPolicy = .dropOldest := by rw [h.same State.params, hs]
  unfold presentExternal
  rw [held_of_dropOldest hs, held_of_dropOldest hu, h.same State.tornDown]
  split
  · exact ⟨_, _, rfl, rfl, h⟩
  · exact present_alike p w h hs

theorem sequence_alike {s u : State} (h : Alike s u) : Alike (sequence s) (sequence u) := by
  obtain ⟨r, o, e, rfl, he⟩ := h
  unfold sequence
  dsimp only [State.withSink]
  cases s.seq.phase with
  | carry | pass => exact .ite .rfl ⟨_, _, _, rfl, he⟩ ⟨_, _, _, rfl, he⟩
  | ticks => exact .ite .rfl (.ite .rfl ⟨_, _, _, rfl, he⟩ ⟨_, _, _, rfl, he⟩) ⟨_, _, _, rfl, he⟩
  | idle | carryTick | passRun | tickRun => exact ⟨_, _, _, rfl, he⟩

theorem loadArg_alike (a : EventArg) {s u : State} (h : Alike s u) : Alike (s.loadArg a) (u.loadArg a) := by
  obtain ⟨r, o, e, rfl, he⟩ := h
  cases a <;> exact ⟨_, _, _, rfl, he⟩

theorem emulate_alike {s u : State} (h : Alike s u) (hs : s.params.rbPolicy = .dropOldest) :
    ∃ t v, emulate s = .next t ∧ emulate u = .next v ∧ Alike t v := by
  unfold emulate
  rw [h.same State.tornDown, h.same State.events]
  split
  · exact ⟨_, _, rfl, rfl, h⟩
  · cases s.events with
    | nil => exact ⟨_, _, rfl, rfl, sequence_alike h⟩
    | cons ev es =>
      obtain ⟨r, o, e, rfl, he⟩ := h
      have hload : Alike ({ s with events := es }.loadArg ev.arg)
          ({ s.withSink r o e with events := es }.loadArg ev.arg) :=
        loadArg_alike ev.arg ⟨_, _, _, rfl, he⟩
      exact present_alike .internal ev.word hload (by simpa using hs)

theorem teardown_alike {s u : State} (h : Alike s u) (hs : s.params.rbPolicy = .dropOldest) :
    Alike (teardown s) (teardown u) := by
  have hu : u.params.rbPolicy = .dropOldest := by rw [h.same State.params, hs]
  unfold teardown
  rw [held_of_dropOldest hs, held_of_dropOldest hu]
  have h' := h
  obtain ⟨r, o, e, rfl, he⟩ := h
  exact .ite .rfl h' ⟨_, _, _, rfl, he⟩

theorem performMove_alike (m : Move) {s u : State} (h : Alike s u) (hs : s.params.rbPolicy = .dropOldest) :
    ∃ t v, performMove m s = .next t ∧ performMove m u = .next v ∧ Alike t v := by
  cases m with
  | emulate => exact emulate_alike h hs
  | teardown => exact ⟨_, _, rfl, rfl, teardown_alike h hs⟩
  | bus w | cpu w | host w | irqsrc w | sink w => exact presentExternal_alike _ w h hs

theorem nextMove_alike {s u : State} (h : Alike s u) (hs : s.params.rbPolicy = .dropOldest) :
    ∃ t v, nextMove s = .next t ∧ nextMove u = .next v ∧ Alike t v := by
  have h' := h
  obtain ⟨r, o, e, rfl, he⟩ := h
  have hscript : e.script = s.env.script := (congrArg Env.script he :)
  unfold nextMove
  dsimp only [State.withSink]
  rw [hscript]
  split
  · exact emulate_alike h' hs
  · rename_i m ms _
    have henv := congrArg (fun x : Env => { x with script := ms }) he
    exact performMove_alike m ⟨_, _, _, rfl, henv⟩ hs

/-- A ring within its capacity is all that the invariants ask of what the sink can change (R902). -/
theorem invariants_alike {s u : State} (h : Alike s u) (hs : s.ring.rb.length ≤ s.params.rbCap.val)
    (hu : u.ring.rb.length ≤ u.params.rbCap.val) : u.invariants = s.invariants := by
  obtain ⟨r, o, e, rfl, -⟩ := h
  unfold State.invariants
  rw [decide_eq_true hs, decide_eq_true hu]
  rfl

/-- Settles O58: every operation keeps `Alike`, from the words inside an oracle call up to the next move. -/
theorem sinkInfluencesOnlyTheRing : Obligations.SinkInfluencesOnlyTheRing := by
  intro s u t hblind hpolicy hs hu hstep
  have h := alike_iff.mpr hblind
  simp only [← alike_iff]
  unfold step at hstep ⊢
  rw [h.same State.faults, invariants_alike h hs hu]
  split_ifs at hstep ⊢
  · cases hstep
    exact ⟨_, rfl, raiseFault_alike .invariant h⟩
  · obtain ⟨t', v, ht, hv, h'⟩ := nextMove_alike h hpolicy
    cases ht.symm.trans hstep
    exact ⟨v, hv, h'⟩

end Sys2Proof.Machine
end

section
/-! PROOFS. The register space (R205-R207, R211): what each register's write stores, what its read shows, and the two
tables of fields against each other. -/

namespace Sys2Proof.Machine

open Sys2Proof.Claims (registerImage liveBits storing laneMask rm wm)

/-! ## Registers by their fields -/

/-- Two words beside each other, by their weights. -/
theorem append_toNat {m n : Nat} (x : BitVec m) (y : BitVec n) : (x ++ y).toNat = x.toNat * 2 ^ n + y.toNat := by
  rw [BitVec.toNat_append, shiftLeft_or_eq _ _ _ y.isLt]

theorem eq_ofNat_of_toNat {w n : Nat} {x : BitVec w} (h : x.toNat = n) : x = BitVec.ofNat w n := by
  rw [← h, BitVec.ofNat_toNat, BitVec.setWidth_eq]

/-- The stored value of a register is the sum of its fields, each at the weight of its position (R211). -/
theorem storedValue_eq_registerImage (r : Reg) (s : State) : storedValue r s = registerImage r s := by
  apply eq_ofNat_of_toNat
  cases r <;>
    simp only [storedValue, Sweep.pack, Square.dutyEnv, packControl, Wave.packSelect, Wave.packVolume, Noise.packEnv,
      Noise.packControl, Apu.packMix, soundControl, soundStatus, Apu.packBias, Wave.readRam, Timer.packControl, readIme,
      append_toNat, BitVec.toNat_ofBool, BitVec.toNat_setWidth, BitVec.toNat_ofNat, Bool.toNat_false]
  case fifoA | fifoB | iflags | haltcnt => rfl
  case ime => cases s.irq.ime <;> rfl
  all_goals omega

theorem readMask_eq_rm (r : Reg) : readMask r = rm r := by cases r <;> rfl

theorem writeMask_eq_wm (r : Reg) : writeMask r = wm r := by cases r <;> rfl

theorem dynamicBits_eq_liveBits (r : Reg) (s : State) : dynamicBits r s = liveBits r s := by
  cases r with
  | soundcntX =>
    apply eq_ofNat_of_toNat
    simp only [dynamicBits, soundStatus, append_toNat, BitVec.toNat_ofBool, BitVec.toNat_ofNat, Bool.toNat_false]
    omega
  | _ => rfl

/-! ## What a write stores (R205) -/

/-- len_en and freq, taken from a written value and put together again (R603, R605, R608). -/
theorem packControl_of_bits (m : Half) :
    packControl ((m &&& 0x47FF).getLsbD 14) ((m &&& 0x47FF).extractLsb' 0 11) = m &&& 0x47FF := by
  apply BitVec.eq_of_getLsbD_eq
  intro i hi
  simp only [packControl, BitVec.getLsbD_append]
  interval_cases i <;> simp

/-- A write of the frequency and control register of a square channel; a trigger keeps what it stored (R603, R629). -/
theorem Square.writeControl_packControl (c : Square) (be : BitVec 2) (data : Half) :
    packControl (c.writeControl be data).lenEn (c.writeControl be data).freq =
      merge be (packControl c.lenEn c.freq) data &&& 0x47FF := by
  rw [← packControl_of_bits]
  unfold Square.writeControl
  dsimp only
  split <;> rfl

/-- The same of channel 3 (R608, R630). -/
theorem Wave.writeControl_packControl (c : Wave) (be : BitVec 2) (data : Half) :
    packControl (c.writeControl be data).lenEn (c.writeControl be data).freq =
      merge be (packControl c.lenEn c.freq) data &&& 0x47FF := by
  rw [← packControl_of_bits]
  unfold Wave.writeControl
  dsimp only
  split <;> rfl

/-- The fields of SOUND4CNT_H, taken from a written value and put together again (R610). -/
theorem Noise.packControl_of_bits (c : Noise) (m : Half) :
    { c with
      r := (m &&& 0x40FF).extractLsb' 0 3, width := (m &&& 0x40FF).getLsbD 3
      s := (m &&& 0x40FF).extractLsb' 4 4, lenEn := (m &&& 0x40FF).getLsbD 14 }.packControl = m &&& 0x40FF := by
  apply BitVec.eq_of_getLsbD_eq
  intro i hi
  simp only [Noise.packControl, BitVec.getLsbD_append]
  interval_cases i <;> simp

/-- A write of SOUND4CNT_H; a trigger keeps what it stored (R610, R631). -/
theorem Noise.writeControl_packControl (c : Noise) (be : BitVec 2) (data : Half) :
    (c.writeControl be data).packControl = merge be c.packControl data &&& 0x40FF := by
  rw [← Noise.packControl_of_bits c]
  unfold Noise.writeControl
  dsimp only
  split <;> rfl

/-- The fields of TMnCNT_H, taken from a written value and put together again (R502). -/
theorem Timer.packControl_of_bits (t : Timer) (m : Half) :
    { t with
      prescaler := (m &&& 0x00C7).extractLsb' 0 2, cascade := (m &&& 0x00C7).getLsbD 2
      irqEn := (m &&& 0x00C7).getLsbD 6, enable := (m &&& 0x00C7).getLsbD 7 }.packControl = m &&& 0x00C7 := by
  apply BitVec.eq_of_getLsbD_eq
  intro i hi
  simp only [Timer.packControl, BitVec.getLsbD_append]
  interval_cases i <;> simp

/-- A write of TMnCNT_H; a start keeps what it stored (R502). -/
theorem Timer.writeControl_packControl (t : Timer) (be : BitVec 2) (data : Half) :
    (t.writeControl be data).packControl = merge be t.packControl data &&& 0x00C7 := by
  rw [← Timer.packControl_of_bits t]
  unfold Timer.writeControl
  dsimp only
  split <;> rfl

/-- A merge, byte by byte (R205). -/
theorem merge_append (be : BitVec 2) (hi lo : Byte) (data : Half) :
    merge be (hi ++ lo) data =
      (if laneHi be then data.extractLsb' 8 8 else hi) ++ (if laneLo be then data.extractLsb' 0 8 else lo) := by
  apply BitVec.eq_of_getLsbD_eq
  intro i hlt
  rw [merge_getLsbD be _ data i hlt]
  simp only [laneHi, laneLo, BitVec.getLsbD_append]
  cases h0 : be[0] <;> cases h1 : be[1] <;> interval_cases i <;> simp [h0, h1]

/-- A write of a wave RAM halfword is read back, each enabled lane the data's byte (R611). -/
theorem Wave.readRam_writeRam (c : Wave) (k : Fin 8) (be : BitVec 2) (data : Half) :
    (c.writeRam k be data).readRam k = merge be (c.readRam k) data := by
  have hlo : 2 * k.val < 16 := by omega
  have hhi : 2 * k.val + 1 < 16 := by omega
  unfold Wave.readRam
  rw [merge_append]
  unfold Wave.writeRam
  split_ifs <;> simp [Wave.byte_setByte, hlo, hhi]

/-- Only bit 7 of the low lane of SOUNDCNT_X is stored (R707). -/
theorem writeSoundcntX_stored (be : BitVec 2) (data : Half) (s : State) :
    storedValue .soundcntX (writeSoundcntX be data s) = merge be (storedValue .soundcntX s) data &&& 0x0080 := by
  have hen : (writeSoundcntX be data s).apu.masterEn = if laneLo be then data.getLsbD 7 else s.apu.masterEn := by
    unfold writeSoundcntX
    dsimp only
    split_ifs <;> rfl
  simp only [storedValue, hen]
  apply BitVec.eq_of_getLsbD_eq
  intro i hi
  rw [BitVec.getLsbD_and, merge_getLsbD _ _ _ i hi]
  simp only [soundStatus, BitVec.getLsbD_append]
  interval_cases i <;> simp [laneLo]

/-- Only bit 0 of the low lane of IME is stored (R419). -/
theorem writeIme_stored (be : BitVec 2) (data : Half) (s : State) :
    readIme (writeIme be data s) = merge be (readIme s) data &&& 0x0001 := by
  have hime : (writeIme be data s).irq.ime = if laneLo be then data.getLsbD 0 else s.irq.ime := by
    unfold writeIme
    split_ifs <;> rfl
  simp only [readIme, hime]
  apply BitVec.eq_of_getLsbD_eq
  intro i hi
  rw [BitVec.getLsbD_and, merge_getLsbD _ _ _ i hi]
  interval_cases i <;> simp [laneLo]

/-- A write stores the enabled lanes under WM and keeps the others (R205, R211). -/
theorem storedValue_writeReg (r : Reg) (be : BitVec 2) (data : Half) (s : State) (h : storing r = true) :
    storedValue r (writeReg be data r s) = merge be (storedValue r s) data &&& writeMask r := by
  cases r
  case fifoA | fifoB | iflags | haltcnt => cases h
  case sound1cntX => exact s.ch1.writeControl_packControl be data
  case sound2cntH => exact s.ch2.writeControl_packControl be data
  case sound3cntX => exact s.wave.writeControl_packControl be data
  case sound4cntH => exact s.noise.writeControl_packControl be data
  case soundcntX => exact writeSoundcntX_stored be data s
  case ime => exact writeIme_stored be data s
  case ie => rfl
  case waveRam k => exact (s.wave.readRam_writeRam k be data).trans BitVec.and_allOnes.symm
  case tmcntL n =>
    refine Eq.trans ?_ BitVec.and_allOnes.symm
    simp [storedValue, writeReg, writeTmcntL]
  case tmcntH n =>
    refine Eq.trans ?_ ((s.timer n).writeControl_packControl be data)
    simp [storedValue, writeReg, writeTmcntH]
  all_goals
    generalize hm : merge be (storedValue _ s) data = m
    simp only [storedValue] at hm
    apply BitVec.eq_of_getLsbD_eq
    intro i hi
    simp only [storedValue, writeReg, writeSound1cntL, writeSound1cntH, writeSound2cntL, Square.writeDutyEnv,
      writeSound3cntL, Wave.writeSelect, writeSound3cntH, Wave.writeVolume, writeSound4cntL, Noise.writeEnv,
      Envelope.load, writeSoundcntL, writeSoundcntH, Fifo.control, writeSoundbias, writeMask, hm]
    simp only [Sweep.pack, Square.dutyEnv, Wave.packSelect, Wave.packVolume, Noise.packEnv, Apu.packMix, soundControl,
      Apu.packBias, BitVec.getLsbD_append]
    interval_cases i <;> simp

/-- The write row of a register performs its write (R205). -/
theorem exec_writeRow (be : BitVec 2) (data : Half) (r : Reg) (s : State) :
    exec (writeRow be data r) s = .next (writeReg be data r s) := by cases r <;> rfl

/-! ## What a read shows (R206) -/

/-- What the invariants say of the two registers whose storage is wider than WM (R902). -/
theorem invariants_registers {s : State} (h : s.invariants = true) :
    fits14 s.irq.ie = true ∧ s.apu.bias[0] = false := by
  simp only [State.invariants, Bool.and_eq_true, Bool.not_eq_true', BitVec.getLsbD_eq_getElem, Nat.ofNat_pos] at h
  tauto

/-- A register holds no bit outside WM (R211, R902). -/
theorem storedValue_masked (r : Reg) {s : State} (h : s.invariants = true) :
    storedValue r s &&& writeMask r = storedValue r s := by
  obtain ⟨hie, hbias⟩ := invariants_registers h
  cases r
  case ie =>
    have hhigh : s.irq.ie &&& 0xC000 = 0 := by simpa [fits14] using hie
    calc s.irq.ie &&& 0x3FFF = s.irq.ie &&& 0x3FFF ||| s.irq.ie &&& 0xC000 := by rw [hhigh]; exact BitVec.or_zero.symm
      _ = s.irq.ie &&& BitVec.allOnes 16 := BitVec.and_or_distrib_left.symm
      _ = s.irq.ie := BitVec.and_allOnes
  case waveRam k | tmcntL k => exact BitVec.and_allOnes
  case fifoA | fifoB | iflags | haltcnt => exact BitVec.zero_and
  all_goals
    apply BitVec.eq_of_getLsbD_eq
    intro i hi
    simp only [storedValue, writeMask, Sweep.pack, Square.dutyEnv, packControl, Wave.packSelect, Wave.packVolume,
      Noise.packEnv, Noise.packControl, Apu.packMix, soundControl, soundStatus, Apu.packBias, Timer.packControl,
      readIme, BitVec.getLsbD_and, BitVec.getLsbD_append]
    interval_cases i <;> simp [hbias]

/-- A register all of whose stored bits are shown reads as it is stored. -/
theorem readValue_eq_storedValue {r : Reg} {s : State} (h : s.invariants = true) (hmask : readMask r = writeMask r)
    (hlive : dynamicBits r s = 0) : readValue r s = storedValue r s := by
  unfold readValue
  rw [hmask, hlive, storedValue_masked r h]
  exact BitVec.or_zero

/-- What a frequency and control register shows: freq is write-only (R603, R605, R608). -/
theorem packControl_shown (lenEn : Bool) (freq : BitVec 11) :
    (packControl lenEn freq &&& 0x4000) ||| 0 = readControl lenEn := by
  apply BitVec.eq_of_getLsbD_eq
  intro i hi
  simp only [packControl, readControl, BitVec.getLsbD_or, BitVec.getLsbD_and, BitVec.getLsbD_append]
  interval_cases i <;> simp

/-- The stored bit and the live bits of SOUNDCNT_X (R707). -/
theorem soundStatus_split (m e1 e2 e3 e4 : Bool) :
    (soundStatus m false false false false &&& 0x0080) ||| soundStatus false e1 e2 e3 e4 =
      soundStatus m e1 e2 e3 e4 := by
  revert m e1 e2 e3 e4
  decide

/-- The read row of a register sends `(stored & RM) | dynamic` and does nothing else (R206). -/
theorem exec_readRow (r : Reg) {s : State} (h : s.invariants = true) :
    exec (readRow r) s = .next (s.readResult (readValue r s)) := by
  cases r with
  | sound1cntX => rw [show readValue .sound1cntX s = _ from packControl_shown s.ch1.lenEn s.ch1.freq]; rfl
  | sound2cntH => rw [show readValue .sound2cntH s = _ from packControl_shown s.ch2.lenEn s.ch2.freq]; rfl
  | sound3cntX => rw [show readValue .sound3cntX s = _ from packControl_shown s.wave.lenEn s.wave.freq]; rfl
  | soundcntX => rw [show readValue .soundcntX s = _ from soundStatus_split _ _ _ _ _]; rfl
  | tmcntL n => simp [readRow, exec, execRegReadTmcntL, readValue, readMask, dynamicBits]
  | iflags => simp [readRow, exec, execRegReadIf, readValue, storedValue, dynamicBits]
  | _ => rw [readValue_eq_storedValue h] <;> rfl

/-! ## The obligations -/

/-- Settles O6: `exec_readRow`, with the model's fields and masks in the statement's own words. -/
theorem registerReadsShowMaskedStoredAndLiveBits : Obligations.RegisterReadsShowMaskedStoredAndLiveBits := by
  intro r s h
  have hvalue : readValue r s = (registerImage r s &&& rm r) ||| liveBits r s := by
    rw [readValue, storedValue_eq_registerImage, readMask_eq_rm, dynamicBits_eq_liveBits]
  refine ⟨hvalue, ?_⟩
  rw [exec_readRow r h, hvalue]
  rfl

/-- Settles O8: `storedValue_writeReg`, with the stored value as the image of the register's fields. -/
theorem registerWritesStoreEnabledLanesUnderMask : Obligations.RegisterWritesStoreEnabledLanesUnderMask := by
  intro r be data s h
  refine ⟨storedValue_eq_registerImage r s, _, exec_writeRow be data r s, ?_⟩
  rw [← storedValue_eq_registerImage, ← storedValue_eq_registerImage, storedValue_writeReg r be data s h,
    writeMask_eq_wm]
  rfl

/-- Settles O7: the two unmapped rows are the empty write and the read of 0x0000. -/
theorem unmappedHalfwordsReadZeroAndIgnoreWrites : Obligations.UnmappedHalfwordsReadZeroAndIgnoreWrites :=
  fun _ _ _ _ => ⟨rfl, rfl⟩

end Sys2Proof.Machine
end

section
/-! PROOFS. The encoding (R300-R310): a word by its fields, the row that a word selects and the checks that it passes;
then the decoder against the encoder, the ordered checks and the opcode table, and a step against the decoder. -/

namespace Sys2Proof

/-! ## A word by its fields (R301, R302) -/

@[simp] theorem wordClass_and (v w : Word) : wordClass (v &&& w) = wordClass v &&& wordClass w :=
  BitVec.extractLsb'_and

@[simp] theorem wordBe_and (v w : Word) : wordBe (v &&& w) = wordBe v &&& wordBe w := BitVec.extractLsb'_and

@[simp] theorem wordHaddr_and (v w : Word) : wordHaddr (v &&& w) = wordHaddr v &&& wordHaddr w :=
  BitVec.extractLsb'_and

@[simp] theorem wordZ_and (v w : Word) : wordZ (v &&& w) = (wordZ v && wordZ w) := BitVec.getLsbD_and

@[simp] theorem wordData_and (v w : Word) : wordData (v &&& w) = wordData v &&& wordData w := BitVec.extractLsb'_and

@[simp] theorem wordOp_and (v w : Word) : wordOp (v &&& w) = wordOp v &&& wordOp w := BitVec.extractLsb'_and

@[simp] theorem wordArg8_and (v w : Word) : wordArg8 (v &&& w) = wordArg8 v &&& wordArg8 w := BitVec.extractLsb'_and

theorem wordClass_or (v w : Word) : wordClass (v ||| w) = wordClass v ||| wordClass w := BitVec.extractLsb'_or

theorem wordBe_or (v w : Word) : wordBe (v ||| w) = wordBe v ||| wordBe w := BitVec.extractLsb'_or

theorem wordHaddr_or (v w : Word) : wordHaddr (v ||| w) = wordHaddr v ||| wordHaddr w := BitVec.extractLsb'_or

theorem wordZ_or (v w : Word) : wordZ (v ||| w) = (wordZ v || wordZ w) := BitVec.getLsbD_or

theorem wordData_or (v w : Word) : wordData (v ||| w) = wordData v ||| wordData w := BitVec.extractLsb'_or

/-- Masks of ones only, as the numerals that stand in a mask's fields. -/
theorem and_pair (x : BitVec 2) : x &&& 3#2 = x := BitVec.and_allOnes

theorem and_code (x : BitVec 6) : x &&& 63#6 = x := BitVec.and_allOnes

theorem and_byte (a : BitVec 8) : a &&& 0xFF#8 = a := BitVec.and_allOnes

theorem and_half (d : Half) : d &&& 0xFFFF#16 = d := BitVec.and_allOnes

/-- A word by the weights of its fields, Z among them (R301). -/
theorem word_toNat (w : Word) :
    w.toNat = (wordClass w).toNat * 0x40000000 + (wordBe w).toNat * 0x10000000 + (wordHaddr w).toNat * 0x20000 +
      (wordZ w).toNat * 0x10000 + (wordData w).toNat := by
  have hz : (wordZ w).toNat = w.toNat / 2 ^ 16 % 2 := by
    rw [wordZ, BitVec.getLsbD, Nat.toNat_testBit]
  unfold wordClass wordBe wordHaddr wordData
  simp only [hz, field_toNat]
  have := w.isLt
  omega

/-- A word is its five fields of R301. -/
theorem eq_iff_regFields {v w : Word} :
    v = w ↔ wordClass v = wordClass w ∧ wordBe v = wordBe w ∧ wordHaddr v = wordHaddr w ∧ wordZ v = wordZ w ∧
      wordData v = wordData w := by
  refine ⟨fun h => h ▸ ⟨rfl, rfl, rfl, rfl, rfl⟩, fun ⟨hclass, hbe, hhaddr, hz, hdata⟩ => ?_⟩
  apply BitVec.eq_of_toNat_eq
  rw [word_toNat v, word_toNat w, hclass, hbe, hhaddr, hz, hdata]

/-- A word matches a mask field by field. -/
theorem and_eq_iff_regFields {w m v : Word} :
    w &&& m = v ↔ wordClass w &&& wordClass m = wordClass v ∧ wordBe w &&& wordBe m = wordBe v ∧
      wordHaddr w &&& wordHaddr m = wordHaddr v ∧ (wordZ w && wordZ m) = wordZ v ∧
      wordData w &&& wordData m = wordData v := by
  rw [eq_iff_regFields, wordClass_and, wordBe_and, wordHaddr_and, wordZ_and, wordData_and]

/-- A register word from its own fields, where Z is 0 (R301). -/
theorem regWord_fields {w : Word} (hz : wordZ w = false) :
    regWord (wordClass w) (wordBe w) (wordHaddr w) (wordData w) = w := by
  simp [eq_iff_regFields, hz]

/-- The bits of W[23:0] under a mask. -/
theorem and_args_eq_zero (w : Word) (m : BitVec 24) : w &&& (0#8 ++ m) = 0 ↔ w.extractLsb' 0 24 &&& m = 0 := by
  have hsplit : w &&& (0#8 ++ m) = 0#8 ++ (w.extractLsb' 0 24 &&& m) := by
    calc w &&& (0#8 ++ m) = (w.extractLsb' 24 8 ++ w.extractLsb' 0 24) &&& (0#8 ++ m) :=
          congrArg (· &&& (0#8 ++ m)) (BitVec.extractLsb'_append_extractLsb' (w := 8) (len := 24)).symm
      _ = 0#8 ++ (w.extractLsb' 0 24 &&& m) := by rw [BitVec.and_append, BitVec.and_zero]
  rw [hsplit]
  exact BitVec.append_right_inj (t₂ := 0#24) (0#8)

/-- The four classes (R300). -/
theorem wordClass_cases (w : Word) : wordClass w = 0 ∨ wordClass w = 1 ∨ wordClass w = 2 ∨ wordClass w = 3 := by
  generalize wordClass w = c
  revert c
  decide

/-! ## The row that a word selects (R305 check 6) -/

theorem rowInstr_write_mapped {w : Word} {r : Reg} (hc : wordClass w = 0) (hr : regAt (wordHaddr w) = some r) :
    rowInstr w = some (writeRow (wordBe w) (wordData w) r) := by
  simp [rowInstr, hc, hr]

theorem rowInstr_write_unmapped {w : Word} (hc : wordClass w = 0) (hr : regAt (wordHaddr w) = none) :
    rowInstr w = some (.regWriteUnmapped (wordHaddr w) (wordBe w) (wordData w)) := by
  simp [rowInstr, hc, hr]

theorem rowInstr_read_mapped {w : Word} {r : Reg} (hc : wordClass w = 1) (hr : regAt (wordHaddr w) = some r) :
    rowInstr w = some (readRow r) := by
  simp [rowInstr, hc, hr]

theorem rowInstr_read_unmapped {w : Word} (hc : wordClass w = 1) (hr : regAt (wordHaddr w) = none) :
    rowInstr w = some (.regReadUnmapped (wordHaddr w)) := by
  simp [rowInstr, hc, hr]

/-- Which words select no row: the codes that R308 and R309 do not assign. -/
theorem rowInstr_eq_none_iff (w : Word) :
    rowInstr w = none ↔ wordClass w = 2 ∧ 8 ≤ (wordOp w).toNat ∨ wordClass w = 3 ∧ 14 ≤ (wordOp w).toNat := by
  rcases wordClass_cases w with hc | hc | hc | hc
  · cases hr : regAt (wordHaddr w) with
    | none => simp [rowInstr_write_unmapped hc hr, hc]
    | some r => simp [rowInstr_write_mapped hc hr, hc]
  · cases hr : regAt (wordHaddr w) with
    | none => simp [rowInstr_read_unmapped hc hr, hc]
    | some r => simp [rowInstr_read_mapped hc hr, hc]
  all_goals
    simp only [rowInstr, hc, BitVec.reduceToNat, BitVec.reduceEq]
    split <;> simp [*]
    -- the last arm: no assigned code
    simp only [imp_false] at *
    omega

/-- The port of the row that a word selects (R305 check 3, R308, R309). -/
theorem rowInstr_port {w : Word} {i : Instr} (h : rowInstr w = some i) :
    i.port = Claims.portOfRow (wordClass w).toNat (wordOp w).toNat := by
  rcases wordClass_cases w with hc | hc | hc | hc
  · cases hr : regAt (wordHaddr w) with
    | none =>
      rw [rowInstr_write_unmapped hc hr] at h
      cases h
      rw [hc]
      rfl
    | some r =>
      rw [rowInstr_write_mapped hc hr] at h
      cases h
      rw [hc]
      exact writeRow_port _ _ _
  · cases hr : regAt (wordHaddr w) with
    | none =>
      rw [rowInstr_read_unmapped hc hr] at h
      cases h
      rw [hc]
      rfl
    | some r =>
      rw [rowInstr_read_mapped hc hr] at h
      cases h
      rw [hc]
      exact readRow_port _
  all_goals
    simp only [rowInstr, hc, BitVec.ofNat_eq_ofNat, BitVec.reduceToNat] at h
    split at h <;> cases h <;> simp [*, Claims.portOfRow, Instr.port]

/-! ## Must-be-zero bits (R305 check 5) -/

theorem reservedBitSet_write {w : Word} (hc : wordClass w = 0) : reservedBitSet w = wordZ w := by
  simp [reservedBitSet, hc]

theorem reservedBitSet_read {w : Word} (hc : wordClass w = 1) :
    reservedBitSet w = (wordZ w || wordBe w != 3#2 || wordData w != 0#16) := by
  simp [reservedBitSet, hc]

theorem reservedBitSet_args {w : Word} (hc : wordClass w = 2 ∨ wordClass w = 3) :
    reservedBitSet w = false ↔ w.extractLsb' 0 24 &&& unusedArgs w = 0 := by
  rcases hc with hc | hc <;> simp [reservedBitSet, hc]

/-- A command word's arguments, ARG8 and ARG16 apart (R302). -/
theorem reservedBitSet_command {w : Word} (hc : wordClass w = 2 ∨ wordClass w = 3) :
    reservedBitSet w = false ↔
      wordArg8 w &&& (unusedArgs w).extractLsb' 16 8 = 0 ∧ wordData w &&& (unusedArgs w).extractLsb' 0 16 = 0 := by
  rw [reservedBitSet_args hc, ← wordArg8_of_args, ← wordData_of_args, ← BitVec.extractLsb'_and,
    ← BitVec.extractLsb'_and]
  generalize w.extractLsb' 0 24 &&& unusedArgs w = x
  constructor
  · rintro rfl
    exact ⟨rfl, rfl⟩
  · rintro ⟨hhi, hlo⟩
    rw [← BitVec.extractLsb'_append_extractLsb' (w := 8) (len := 16) (x := x), hhi, hlo]
    rfl

/-! ## What the decoder accepts (R305) -/

/-- The decoder's answer from the row, in the order of R305's checks. -/
theorem decode_of_rowInstr {w : Word} {i : Instr} (hrow : rowInstr w = some i) (p : Port) :
    decode p w =
      if wordClass w = 3 ∧ p ≠ .internal then .refused .internalOnly
      else if i.port ≠ p then .refused .wrongPort
      else if wordClass w = 0 ∧ wordBe w = 0 then .refused .badBe
      else if reservedBitSet w then .refused .reservedBit
      else .instr i := by
  simp [decode, hrow]

/-- The checks that an accepted word has passed, and no other, are R305's. -/
theorem decode_eq_instr_iff {p : Port} {w : Word} {i : Instr} :
    decode p w = .instr i ↔
      rowInstr w = some i ∧ i.port = p ∧ ¬ (wordClass w = 0 ∧ wordBe w = 0) ∧ reservedBitSet w = false := by
  constructor
  · intro h
    obtain ⟨hrow, hport, hres⟩ := decode_instr h
    refine ⟨hrow, hport, fun hbe => ?_, hres⟩
    simp [decode_of_rowInstr hrow, hport, hbe] at h
  · rintro ⟨hrow, hport, hbe, hres⟩
    have hinternal : ¬ (wordClass w = 3 ∧ p ≠ .internal) := by
      rintro ⟨hc, hp⟩
      rw [rowInstr_port hrow, hc] at hport
      exact hp hport.symm
    rw [decode_of_rowInstr hrow, if_neg hinternal, if_neg (not_not.mpr hport), if_neg hbe, hres]
    rfl

/-! ## Decoding an encoded instruction -/

theorem beOk_iff (be : BitVec 2) : Instr.beOk be = true ↔ be ≠ 0#2 := bne_iff_ne

theorem decode_writeWord (r : Reg) {be : BitVec 2} (data : Half) (hbe : Instr.beOk be = true) :
    decode .bus (writeWord r be data) = .instr (writeRow be data r) := by
  have hbe : be ≠ 0#2 := (beOk_iff be).mp hbe
  exact decode_eq_instr_iff.mpr ⟨by simp [writeWord, rowInstr], writeRow_port be data r, by simp [writeWord, hbe],
    by simp [writeWord, reservedBitSet]⟩

theorem decode_readWord (r : Reg) : decode .bus (readWord r) = .instr (readRow r) :=
  decode_eq_instr_iff.mpr ⟨by simp [readWord, rowInstr], readRow_port r, by simp [readWord],
    by simp [readWord, reservedBitSet]⟩

theorem decode_unmappedWrite {h : BitVec 11} {be : BitVec 2} (data : Half) (hbe : Instr.beOk be = true)
    (hr : regAt h = none) : decode .bus (regWord 0 be h data) = .instr (.regWriteUnmapped h be data) := by
  have hbe : be ≠ 0#2 := (beOk_iff be).mp hbe
  exact decode_eq_instr_iff.mpr ⟨by simp [rowInstr, hr], rfl, by simp [hbe], by simp [reservedBitSet]⟩

theorem decode_unmappedRead {h : BitVec 11} (hr : regAt h = none) :
    decode .bus (regWord 1 3 h 0) = .instr (.regReadUnmapped h) :=
  decode_eq_instr_iff.mpr ⟨by simp [rowInstr, hr], rfl, by simp, by simp [reservedBitSet]⟩

/-- A command word is accepted on its row's port when its unused arguments are 0. -/
theorem decode_cmdWord {cls : BitVec 2} {op : BitVec 6} {a : BitVec 8} {b : Half} {i : Instr}
    (hc : cls = 2 ∨ cls = 3) (hrow : rowInstr (cmdWord cls op a b) = some i)
    (ha : a &&& (unusedArgs (cmdWord cls op a b)).extractLsb' 16 8 = 0)
    (hb : b &&& (unusedArgs (cmdWord cls op a b)).extractLsb' 0 16 = 0) :
    decode i.port (cmdWord cls op a b) = .instr i := by
  refine decode_eq_instr_iff.mpr ⟨hrow, rfl, ?_, (reservedBitSet_command (by simpa using hc)).mpr (by simp [ha, hb])⟩
  rintro ⟨h0, -⟩
  rw [wordClass_cmdWord] at h0
  rcases hc with rfl | rfl <;> cases h0

/-- A 14-bit operand leaves bits 15:14 of ARG16 at 0 (R308). -/
theorem setWidth_and_high (x : BitVec 14) : x.setWidth 16 &&& 0xC000#16 = 0 := by
  apply BitVec.eq_of_getLsbD_eq
  intro i hi
  interval_cases i <;> simp

theorem extractLsb'_setWidth (x : BitVec 14) : (x.setWidth 16).extractLsb' 0 14 = x := by
  apply BitVec.eq_of_toNat_eq
  rw [BitVec.extractLsb'_toNat, BitVec.toNat_setWidth, Nat.shiftRight_zero]
  omega

/-- Settles O1: by the instruction's row, a register's write or read, an unmapped address, or a command. -/
theorem decodeOfEncodeIsTheInstruction : Obligations.DecodeOfEncodeIsTheInstruction := by
  intro i h
  cases i with
  | regWriteSound1cntL | regWriteSound1cntH | regWriteSound1cntX | regWriteSound2cntL | regWriteSound2cntH
  | regWriteSound3cntL | regWriteSound3cntH | regWriteSound3cntX | regWriteSound4cntL | regWriteSound4cntH
  | regWriteSoundcntL | regWriteSoundcntH | regWriteSoundcntX | regWriteSoundbias | regWriteWaveRam | regWriteFifoA
  | regWriteFifoB | regWriteTmcntL | regWriteTmcntH | regWriteIe | regWriteIf | regWriteIme | regWriteHaltcnt =>
    exact decode_writeWord _ _ h
  | regReadSound1cntL | regReadSound1cntH | regReadSound1cntX | regReadSound2cntL | regReadSound2cntH
  | regReadSound3cntL | regReadSound3cntH | regReadSound3cntX | regReadSound4cntL | regReadSound4cntH
  | regReadSoundcntL | regReadSoundcntH | regReadSoundcntX | regReadSoundbias | regReadWaveRam | regReadFifoA
  | regReadFifoB | regReadTmcntL | regReadTmcntH | regReadIe | regReadIf | regReadIme | regReadHaltcnt =>
    exact decode_readWord _
  | regWriteUnmapped haddr be data =>
    obtain ⟨hbe, hr⟩ : Instr.beOk be = true ∧ regAt haddr = none := by simpa [Instr.wellFormed] using h
    exact decode_unmappedWrite data hbe hr
  | regReadUnmapped haddr => exact decode_unmappedRead (by simpa [Instr.wellFormed] using h)
  | setSpeed m => exact decode_cmdWord (.inl rfl) (by simp [rowInstr]) (by simp) (by simp [unusedArgs])
  | cpuIntrwait x | irqRequest x =>
    exact decode_cmdWord (.inl rfl) (by simp [rowInstr, extractLsb'_setWidth]) (by simp)
      (by simp [unusedArgs, setWidth_and_high])
  | ringPop pad count =>
    exact decode_cmdWord (.inl rfl) (by simp [rowInstr]) (by cases pad <;> simp [unusedArgs]) (by simp [unusedArgs])
  | evtTimerInc n | evtTimerOverflow n => revert n; decide
  | evtFifoDrain f => cases f <;> decide
  | _ => decide

/-! ## Encoding a decoded word -/

/-- RING_POP's PAD is all of ARG8 where ARG8's unused bits are 0 (R308); so with the other operands below. -/
theorem pad_of_unused_zero : ∀ a : BitVec 8, a &&& 0xFE#8 = 0#8 → (BitVec.ofBool a[0]).setWidth 8 = a := by decide

theorem timerIndex_of_unused_zero : ∀ a : BitVec 8, a &&& 0xFC#8 = 0#8 → BitVec.ofNat 8 (a.toNat % 4) = a := by
  decide

theorem encode_fifoDrain_of_unused_zero : ∀ a : BitVec 8, a &&& 0xFE#8 = 0#8 →
    encode (.evtFifoDrain (if a.getLsbD 0 then .b else .a)) = cmdWord 3#2 5#6 a 0#16 := by decide

theorem mask_of_unused_zero {d : Half} (h : d &&& 0xC000#16 = 0#16) : (d.extractLsb' 0 14).setWidth 16 = d := by
  apply BitVec.eq_of_getLsbD_eq
  intro i hi
  have hbit := congrArg (·.getLsbD i) h
  interval_cases i <;> simp at hbit ⊢ <;> simp [hbit]

theorem wordOp_eq_ofNat {w : Word} {k : Nat} (h : (wordOp w).toNat = k) : wordOp w = BitVec.ofNat 6 k := by
  rw [← h, BitVec.ofNat_toNat, BitVec.setWidth_eq]

/-- The word of a command row, all of whose must-be-zero bits are 0, is its instruction's encoding (R308, R309). -/
theorem encode_of_rowInstr_command {w : Word} {i : Instr} (hc : wordClass w = 2 ∨ wordClass w = 3)
    (hrow : rowInstr w = some i) (hres : reservedBitSet w = false) : encode i = w ∧ i.wellFormed = true := by
  obtain ⟨harg8, hdata⟩ := (reservedBitSet_command hc).mp hres
  rcases hc with hc | hc
  all_goals
    simp only [rowInstr, hc, BitVec.ofNat_eq_ofNat, BitVec.reduceToNat] at hrow
    split at hrow <;> cases hrow
  all_goals
    rename_i hop
    simp [unusedArgs, hc, hop, and_byte, and_half] at harg8 hdata
    refine ⟨Eq.trans ?_ (cmdWord_fields w), rfl⟩
    rw [hc, wordOp_eq_ofNat hop]
    simp [↓encode_fifoDrain_of_unused_zero, encode, harg8, hdata, pad_of_unused_zero, timerIndex_of_unused_zero,
      mask_of_unused_zero]

theorem writeRow_wellFormed (be : BitVec 2) (d : Half) (r : Reg) : (writeRow be d r).wellFormed = Instr.beOk be := by
  cases r <;> rfl

theorem readRow_wellFormed (r : Reg) : (readRow r).wellFormed = true := by cases r <;> rfl

/-- A REG_WRITE word with a lane and Z = 0 is its instruction's encoding (R301, R306). -/
theorem encode_of_rowInstr_write {w : Word} {i : Instr} (hc : wordClass w = 0) (hrow : rowInstr w = some i)
    (hbe : wordBe w ≠ 0) (hres : reservedBitSet w = false) : encode i = w ∧ i.wellFormed = true := by
  rw [reservedBitSet_write hc] at hres
  have hbe : Instr.beOk (wordBe w) = true := (beOk_iff _).mpr hbe
  have hword := regWord_fields hres
  rw [hc] at hword
  cases hr : regAt (wordHaddr w) with
  | none =>
    rw [rowInstr_write_unmapped hc hr] at hrow
    cases hrow
    exact ⟨hword, by simp [Instr.wellFormed, hbe, hr]⟩
  | some r =>
    rw [rowInstr_write_mapped hc hr] at hrow
    cases hrow
    rw [← haddr_of_regAt hr] at hword
    exact ⟨(encode_writeRow _ _ r).trans hword, (writeRow_wellFormed _ _ r).trans hbe⟩

/-- A REG_READ word with BE = 11, DATA = 0 and Z = 0 is its instruction's encoding (R301, R306). -/
theorem encode_of_rowInstr_read {w : Word} {i : Instr} (hc : wordClass w = 1) (hrow : rowInstr w = some i)
    (hres : reservedBitSet w = false) : encode i = w ∧ i.wellFormed = true := by
  obtain ⟨⟨hz, hbe⟩, hdata⟩ : (wordZ w = false ∧ wordBe w = 3) ∧ wordData w = 0 := by
    simpa [reservedBitSet_read hc] using hres
  have hword := regWord_fields hz
  rw [hc, hbe, hdata] at hword
  cases hr : regAt (wordHaddr w) with
  | none =>
    rw [rowInstr_read_unmapped hc hr] at hrow
    cases hrow
    exact ⟨hword, by simp [Instr.wellFormed, hr]⟩
  | some r =>
    rw [rowInstr_read_mapped hc hr] at hrow
    cases hrow
    rw [← haddr_of_regAt hr] at hword
    exact ⟨(encode_readRow r).trans hword, readRow_wellFormed r⟩

/-- Settles O2: by the word's class. -/
theorem acceptedWordIsItsInstructionsEncoding : Obligations.AcceptedWordIsItsInstructionsEncoding := by
  intro p w i h
  obtain ⟨hrow, hport, hbe, hres⟩ := decode_eq_instr_iff.mp h
  have hword : encode i = w ∧ i.wellFormed = true := by
    rcases wordClass_cases w with hc | hc | hc
    · exact encode_of_rowInstr_write hc hrow (fun h0 => hbe ⟨hc, h0⟩) hres
    · exact encode_of_rowInstr_read hc hrow hres
    · exact encode_of_rowInstr_command hc hrow hres
  exact ⟨hword.1, hport, hword.2⟩

/-! ## Refusals (R305) -/

/-- The class and the code of `failingCheck`, by shifts, are the word's fields. -/
theorem shiftRight_class (w : Word) : (w >>> 30).toNat = (wordClass w).toNat := by
  have := w.isLt
  rw [wordClass, field_toNat, BitVec.toNat_ushiftRight, Nat.shiftRight_eq_div_pow]
  omega

theorem shiftRight_op (w : Word) : (w >>> 24).toNat % 64 = (wordOp w).toNat := by
  rw [wordOp, field_toNat, BitVec.toNat_ushiftRight, Nat.shiftRight_eq_div_pow]
  rfl

/-- The masks of the class and of BE, and below the masks of the must-be-zero bits, against the fields. -/
theorem and_class_eq_zero (w : Word) : w &&& 0xC0000000 = 0 ↔ wordClass w = 0 := by
  rw [and_eq_iff_regFields]
  change wordClass w &&& 3#2 = 0 ∧ wordBe w &&& 0#2 = 0 ∧ wordHaddr w &&& 0#11 = 0 ∧ (wordZ w && false) = false ∧
    wordData w &&& 0#16 = 0 ↔ _
  simp [and_pair]

theorem and_be_eq_zero (w : Word) : w &&& 0x30000000 = 0 ↔ wordBe w = 0 := by
  rw [and_eq_iff_regFields]
  change wordClass w &&& 0#2 = 0 ∧ wordBe w &&& 3#2 = 0 ∧ wordHaddr w &&& 0#11 = 0 ∧ (wordZ w && false) = false ∧
    wordData w &&& 0#16 = 0 ↔ _
  simp [and_pair]

theorem and_zeroBits_write {w : Word} (hc : wordClass w = 0) : w &&& 0x00010000 = 0 ↔ reservedBitSet w = false := by
  rw [and_eq_iff_regFields]
  change wordClass w &&& 0#2 = 0 ∧ wordBe w &&& 0#2 = 0 ∧ wordHaddr w &&& 0#11 = 0 ∧ (wordZ w && true) = false ∧
    wordData w &&& 0#16 = 0 ↔ _
  simp [reservedBitSet_write hc]

theorem and_zeroBits_read {w : Word} (hc : wordClass w = 1) :
    w &&& 0x3001FFFF = 0x30000000 ↔ reservedBitSet w = false := by
  rw [and_eq_iff_regFields]
  change wordClass w &&& 0#2 = 0 ∧ wordBe w &&& 3#2 = 3 ∧ wordHaddr w &&& 0#11 = 0 ∧ (wordZ w && true) = false ∧
    wordData w &&& 0xFFFF#16 = 0 ↔ _
  simp [reservedBitSet_read hc, and_pair, and_half]
  tauto

/-- The two tables of must-be-zero bits agree (R308, R309). -/
theorem zeroBits_eq_unusedArgs {w : Word} (hc : wordClass w = 2 ∨ wordClass w = 3) :
    Claims.zeroBits (wordClass w).toNat (wordOp w).toNat = 0#8 ++ unusedArgs w := by
  unfold unusedArgs
  split <;> rcases hc with hc | hc <;> simp_all [Claims.zeroBits]

theorem and_zeroBits_command {w : Word} (hc : wordClass w = 2 ∨ wordClass w = 3) :
    w &&& Claims.zeroBits (wordClass w).toNat (wordOp w).toNat = 0 ↔ reservedBitSet w = false := by
  rw [zeroBits_eq_unusedArgs hc, reservedBitSet_args hc]
  exact and_args_eq_zero w (unusedArgs w)

/-- The first failing check on the raw bits is the decoder's, check by check. -/
theorem failingCheck_eq (p : Port) (w : Word) :
    Claims.failingCheck p w =
      if wordClass w = 3 ∧ p ≠ .internal then some .internalOnly
      else if rowInstr w = none then some .reservedOp
      else if Claims.portOfRow (wordClass w).toNat (wordOp w).toNat ≠ p then some .wrongPort
      else if wordClass w = 0 ∧ wordBe w = 0 then some .badBe
      else if reservedBitSet w then some .reservedBit
      else none := by
  unfold Claims.failingCheck
  simp only [shiftRight_class, shiftRight_op, rowInstr_eq_none_iff, and_be_eq_zero, ne_eq]
  rcases wordClass_cases w with hc | hc | hc
  · simp only [and_zeroBits_write hc]
    simp [hc]
  · simp only [and_zeroBits_read hc]
    simp [hc]
  · simp only [and_zeroBits_command hc]
    rcases hc with hc | hc <;> simp [hc]

/-- Settles O3: both sides are R305's checks in order, on the fields and on the raw bits. -/
theorem decoderRefusesByFirstFailingCheck : Obligations.DecoderRefusesByFirstFailingCheck := by
  intro p w e
  rw [failingCheck_eq]
  cases hrow : rowInstr w with
  | none =>
    unfold decode
    rw [hrow]
    split_ifs <;> simp_all
  | some i =>
    rw [decode_of_rowInstr hrow, rowInstr_port hrow]
    split_ifs <;> simp_all

/-! ## The rows of the opcode table (R306, R308, R309) -/

/-- The HADDR bits that a register's row fixes: not the index of an indexed register (R304, R306). -/
def Reg.haddrMask : Reg → BitVec 11
  | .waveRam _ => 0x7F8
  | .fifoA _ | .fifoB _ => 0x7FE
  | .tmcntL _ | .tmcntH _ => 0x7F9
  | _ => 0x7FF

/-- The register that names the row of its kind: index 0 of an indexed register. -/
def Reg.rowReg : Reg → Reg
  | .waveRam _ => .waveRam 0
  | .fifoA _ => .fifoA 0
  | .fifoB _ => .fifoB 0
  | .tmcntL _ => .tmcntL 0
  | .tmcntH _ => .tmcntH 0
  | r => r

/-- The registers in the table's order, one for each pair of rows. -/
def rowRegs : List Reg :=
  [.sound1cntL, .sound1cntH, .sound1cntX, .sound2cntL, .sound2cntH, .sound3cntL, .sound3cntH, .sound3cntX,
    .sound4cntL, .sound4cntH, .soundcntL, .soundcntH, .soundcntX, .soundbias, .waveRam 0, .fifoA 0, .fifoB 0,
    .tmcntL 0, .tmcntH 0, .ie, .iflags, .ime, .haltcnt]

/-- The command rows in the table's order, with every operand 0. -/
def rowCommands : List Instr :=
  [.reset, .runFrame, .setSpeed 0, .cpuHalt, .cpuStop, .cpuIntrwait 0, .irqRequest 0, .ringPop false 0, .evtPass,
    .evtTick, .evtTimerTick, .evtTimerInc 0, .evtTimerOverflow 0, .evtFifoDrain .a, .evtApuStep, .evtFsClock,
    .evtLengthClock, .evtSweepClock, .evtEnvelopeClock, .evtMix, .evtResample, .evtRingPush]

/-- The mask of a register row: the class, Z, and the bits given of the other fields. -/
def regMask (be : BitVec 2) (haddr : BitVec 11) (data : Half) : Word := regWord 3 be haddr data ||| 0x00010000

/-- The mask of a command row: the class, the code and the unused arguments. -/
def commandMask (i : Instr) : Word :=
  cmdWord 3 63 ((unusedArgs (encode i)).extractLsb' 16 8) ((unusedArgs (encode i)).extractLsb' 0 16)

/-- A row: its instruction's mnemonic and word, with every operand 0, and its mask. -/
def tableRow (i : Instr) (mask : Word) : String × Word × Word := (Claims.rowName i, encode i, mask)

/-- The table holds a write and a read row for each register and for the unmapped addresses, and the command rows. -/
theorem tableRows_eq :
    Claims.tableRows =
      (rowRegs.flatMap fun r =>
        [tableRow (writeRow 0 0 r) (regMask 0 r.haddrMask 0), tableRow (readRow r) (regMask 3 r.haddrMask 0xFFFF)]) ++
      [tableRow (.regWriteUnmapped 0 0 0) (regMask 0 0 0), tableRow (.regReadUnmapped 0) (regMask 3 0 0xFFFF)] ++
      rowCommands.map fun i => tableRow i (commandMask i) := by
  rfl

/-- The fields of a word that matches a register row (R306). -/
theorem fields_of_and_regMask {w : Word} {be cls b : BitVec 2} {m h : BitVec 11} {d : Half}
    (e : w &&& regMask be m d = regWord cls b h 0) :
    wordClass w = cls ∧ wordBe w &&& be = b ∧ wordHaddr w &&& m = h ∧ wordZ w = false ∧ wordData w &&& d = 0 := by
  have hclass : wordClass (regMask be m d) = 3 := by rw [regMask, wordClass_or, wordClass_regWord]; rfl
  have hbe : wordBe (regMask be m d) = be := by rw [regMask, wordBe_or, wordBe_regWord]; exact BitVec.or_zero
  have hhaddr : wordHaddr (regMask be m d) = m := by rw [regMask, wordHaddr_or, wordHaddr_regWord]; exact BitVec.or_zero
  have hz : wordZ (regMask be m d) = true := by rw [regMask, wordZ_or, wordZ_regWord]; rfl
  have hdata : wordData (regMask be m d) = d := by rw [regMask, wordData_or, wordData_regWord]; exact BitVec.or_zero
  simpa [and_eq_iff_regFields, hclass, hbe, hhaddr, hz, hdata, and_pair] using e

theorem rowName_writeRow (be : BitVec 2) (d : Half) (r : Reg) :
    Claims.rowName (writeRow be d r) = Claims.rowName (writeRow 0 0 r.rowReg) := by cases r <;> rfl

theorem rowName_readRow (r : Reg) : Claims.rowName (readRow r) = Claims.rowName (readRow r.rowReg) := by cases r <;> rfl

/-- An address that matches a register row is a register of that row (R306). A row leaves at most the three low bits of
HADDR open, so eight addresses are to be looked up for each. -/
theorem regAt_of_haddrMask {r : Reg} (hr : r ∈ rowRegs) {h : BitVec 11} (e : h &&& r.haddrMask = r.haddr) :
    ∃ q, regAt h = some q ∧ q.rowReg = r := by
  have hlookup : ∀ r ∈ rowRegs, ∀ k < 8, (r.haddr ||| BitVec.ofNat 11 k) &&& r.haddrMask = r.haddr →
      (regAt (r.haddr ||| BitVec.ofNat 11 k)).map Reg.rowReg = some r := by
    decide
  have hopen : ∀ r ∈ rowRegs, (~~~r.haddrMask).toNat < 8 := by decide
  have hk : (h &&& ~~~r.haddrMask).toNat < 8 := by
    rw [BitVec.toNat_and]
    exact Nat.and_le_right.trans_lt (hopen r hr)
  have hsplit : h = r.haddr ||| BitVec.ofNat 11 (h &&& ~~~r.haddrMask).toNat := by
    rw [BitVec.ofNat_toNat, BitVec.setWidth_eq, ← e, ← BitVec.and_or_distrib_left, BitVec.or_not_self,
      BitVec.and_allOnes]
  have hrow := hlookup r hr _ hk
  rw [← hsplit] at hrow
  simpa using hrow e

theorem reservedBitSet_of_read {w : Word} (hc : wordClass w = 1) (hz : wordZ w = false) (hbe : wordBe w &&& 3 = 3)
    (hdata : wordData w &&& 0xFFFF = 0) : reservedBitSet w = false := by
  rw [reservedBitSet_read hc, hz, (and_pair _).symm.trans hbe, (and_half _).symm.trans hdata]
  rfl

/-- The command rows: their class, and their words with operands 0. -/
theorem rowCommands_words : ∀ i ∈ rowCommands, (wordClass (encode i) = 2 ∨ wordClass (encode i) = 3) ∧
    wordArg8 (encode i) = 0 ∧ wordData (encode i) = 0 ∧ rowInstr (encode i) = some i := by
  decide

/-- Which command row a word selects depends on its class and its code alone (R308, R309). -/
theorem rowName_of_class_op {v w : Word} (hc : wordClass v = 2 ∨ wordClass v = 3) (hclass : wordClass w = wordClass v)
    (hop : wordOp w = wordOp v) : (rowInstr w).map Claims.rowName = (rowInstr v).map Claims.rowName := by
  simp only [rowInstr, hclass, hop]
  rcases hc with hc | hc
  all_goals
    simp only [hc, BitVec.ofNat_eq_ofNat, BitVec.reduceToNat]
    split <;> simp [*, Claims.rowName]

theorem unusedArgs_of_class_op {v w : Word} (hclass : wordClass w = wordClass v) (hop : wordOp w = wordOp v) :
    unusedArgs w = unusedArgs v := by
  rw [unusedArgs, hclass, hop, unusedArgs]

/-- The word decodes on its row's port to an instruction with the mnemonic. -/
def DecodesTo (name : String) (w : Word) : Prop :=
  ∃ i, decode (tablePort w) w = .instr i ∧ Claims.rowName i = name

/-- Where a write enables a lane, a word with a row and no must-be-zero bit set decodes on the row's port. -/
theorem decodesTo_of_rowInstr {w : Word} {i : Instr} (hrow : rowInstr w = some i)
    (hlane : wordClass w = 0 → wordBe w ≠ 0) (hres : reservedBitSet w = false) : DecodesTo (Claims.rowName i) w := by
  have hport : tablePort w = i.port := by simp [tablePort, hrow]
  exact ⟨i, decode_eq_instr_iff.mpr ⟨hrow, hport.symm, fun h => hlane h.1 h.2, hres⟩, rfl⟩

theorem decodesTo_write {w : Word} {r : Reg} (hr : r ∈ rowRegs) (hlane : wordClass w = 0 → wordBe w ≠ 0)
    (e : w &&& regMask 0 r.haddrMask 0 = encode (writeRow 0 0 r)) : DecodesTo (Claims.rowName (writeRow 0 0 r)) w := by
  obtain ⟨hc, -, hhaddr, hz, -⟩ := fields_of_and_regMask (e.trans (encode_writeRow 0 0 r))
  obtain ⟨q, hq, rfl⟩ := regAt_of_haddrMask hr hhaddr
  rw [← rowName_writeRow (wordBe w) (wordData w)]
  exact decodesTo_of_rowInstr (rowInstr_write_mapped hc hq) hlane ((reservedBitSet_write hc).trans hz)

theorem decodesTo_read {w : Word} {r : Reg} (hr : r ∈ rowRegs)
    (e : w &&& regMask 3 r.haddrMask 0xFFFF = encode (readRow r)) : DecodesTo (Claims.rowName (readRow r)) w := by
  obtain ⟨hc, hbe, hhaddr, hz, hdata⟩ := fields_of_and_regMask (e.trans (encode_readRow r))
  obtain ⟨q, hq, rfl⟩ := regAt_of_haddrMask hr hhaddr
  rw [← rowName_readRow]
  exact decodesTo_of_rowInstr (rowInstr_read_mapped hc hq) (by simp [hc]) (reservedBitSet_of_read hc hz hbe hdata)

theorem decodesTo_unmappedWrite {w : Word} (hr : regAt (wordHaddr w) = none) (hlane : wordClass w = 0 → wordBe w ≠ 0)
    (e : w &&& regMask 0 0 0 = encode (.regWriteUnmapped 0 0 0)) : DecodesTo "REG_WRITE_unmapped" w := by
  obtain ⟨hc, -, -, hz, -⟩ := fields_of_and_regMask e
  exact decodesTo_of_rowInstr (rowInstr_write_unmapped hc hr) hlane ((reservedBitSet_write hc).trans hz)

theorem decodesTo_unmappedRead {w : Word} (hr : regAt (wordHaddr w) = none)
    (e : w &&& regMask 3 0 0xFFFF = encode (.regReadUnmapped 0)) : DecodesTo "REG_READ_unmapped" w := by
  obtain ⟨hc, hbe, -, hz, hdata⟩ := fields_of_and_regMask e
  exact decodesTo_of_rowInstr (rowInstr_read_unmapped hc hr) (by simp [hc]) (reservedBitSet_of_read hc hz hbe hdata)

theorem decodesTo_command {w : Word} {i : Instr} (hi : i ∈ rowCommands) (e : w &&& commandMask i = encode i) :
    DecodesTo (Claims.rowName i) w := by
  obtain ⟨hc, harg8, hdata, hrow⟩ := rowCommands_words i hi
  have hclass : wordClass w = wordClass (encode i) := by simpa [commandMask, and_pair] using congrArg wordClass e
  have hop : wordOp w = wordOp (encode i) := by simpa [commandMask, and_code] using congrArg wordOp e
  have hres : reservedBitSet w = false := by
    rw [reservedBitSet_command (hclass ▸ hc), unusedArgs_of_class_op hclass hop]
    exact ⟨by simpa [commandMask, harg8] using congrArg wordArg8 e,
      by simpa [commandMask, hdata] using congrArg wordData e⟩
  obtain ⟨j, hj, hname⟩ : ∃ j, rowInstr w = some j ∧ Claims.rowName j = Claims.rowName i := by
    simpa [hrow] using rowName_of_class_op hc hclass hop
  rw [← hname]
  refine decodesTo_of_rowInstr hj (fun h0 => ?_) hres
  rcases hc with hc | hc <;> cases h0.symm.trans (hclass.trans hc)

/-- Settles O4: by the row's kind, with the table as the rows of the model's instructions. -/
theorem opcodeTableRowsDecodeToTheirInstruction : Obligations.OpcodeTableRowsDecodeToTheirInstruction := by
  intro row hrow w hmatch hlane hunmapped
  have hlane : wordClass w = 0 → wordBe w ≠ 0 := fun hc hbe =>
    hlane ((and_class_eq_zero w).mpr hc) ((and_be_eq_zero w).mpr hbe)
  change DecodesTo row.1 w
  rw [tableRows_eq] at hrow
  simp only [List.mem_append, List.mem_flatMap, List.mem_map, List.mem_cons, List.not_mem_nil, or_false] at hrow
  obtain (⟨r, hr, rfl | rfl⟩ | rfl | rfl) | ⟨i, hi, rfl⟩ := hrow
  · exact decodesTo_write hr hlane hmatch
  · exact decodesTo_read hr hmatch
  · exact decodesTo_unmappedWrite (hunmapped (.inl rfl)) hlane hmatch
  · exact decodesTo_unmappedRead (hunmapped (.inr rfl)) hmatch
  · exact decodesTo_command hi hmatch

/-! ## Words written out (R332) -/

/-- Settles O5: eleven closed words, each decoded. -/
theorem writtenOutWordsDecode : Obligations.WrittenOutWordsDecode := by
  unfold Obligations.WrittenOutWordsDecode
  decide

end Sys2Proof

namespace Sys2Proof.Machine

/-! ## A step and the word it takes (R305, R823, R827, R900) -/

/-- A held push in the statement's words: 0xCD000000 is the word of RING_PUSH (R309, R823). -/
theorem held_iff_holding (s : State) : s.held = true ↔ Claims.holding s := by
  rw [held_iff]
  refine and_congr_right fun _ => and_congr_right fun _ => ⟨?_, ?_⟩
  · rintro ⟨⟨word, arg⟩, es, hevents, rfl⟩
    exact ⟨arg, es, hevents⟩
  · rintro ⟨arg, es, hevents⟩
    exact ⟨_, es, hevents, rfl⟩

/-- A word's move presents it on the move's port. -/
theorem performMove_wordMove {p : Port} {m : Move} {w : Word} (h : (p, m) ∈ Claims.wordMoves w) (s : State) :
    performMove m s = presentExternal p w s := by
  simp only [Claims.wordMoves, List.mem_cons, Prod.mk.injEq, List.not_mem_nil, or_false] at h
  rcases h with ⟨rfl, rfl⟩ | ⟨rfl, rfl⟩ | ⟨rfl, rfl⟩ | ⟨rfl, rfl⟩ | ⟨rfl, rfl⟩ <;> rfl

/-- An agent that may act has its word performed or refused (R823, R827). -/
theorem presentExternal_acts {p : Port} {s : State} (h : s.tornDown = true ∨ Claims.holding s → p = .sink)
    (w : Word) : presentExternal p w s = present p w s := by
  obtain ⟨hstopped, hp, -⟩ | ⟨-, e⟩ := presentExternal_cases p w s
  · rw [held_iff_holding] at hstopped
    exact absurd (h hstopped) hp
  · exact e

/-- Settles O53: the next move is the script's word, or the oldest event once the script is used up. -/
theorem stepPerformsTheDecodedInstruction : Obligations.StepPerformsTheDecodedInstruction := by
  intro s w i hsafe
  rw [step_of_safe hsafe]
  constructor
  · intro p m ms hm hscript hacts
    have hmove : nextMove s = present p w { s with env := { s.env with script := ms } } := by
      rw [nextMove, hscript]
      exact (performMove_wordMove hm _).trans
        (presentExternal_acts (s := { s with env := { s.env with script := ms } }) hacts w)
    rw [hmove]
    exact ⟨fun hdec => present_instr hdec _, fun e hdec => present_refused hdec _⟩
  · intro arg es hup hscript hevents hdec
    have hmove : nextMove s = present .internal w ({ s with events := es }.loadArg arg) := by
      simp [nextMove, hscript, emulate, hup, hevents]
    rw [hmove]
    exact present_instr hdec _

end Sys2Proof.Machine
end

section
/-! PROOFS. What the words inside an oracle call, the timers' events and the channel step leave unchanged, and what they
keep true. -/

namespace Sys2Proof.Machine

/-! ## Words inside an oracle call (R205, R222, R940-R943) -/

/-- What no word of the BUS, CPU, IRQSRC and SINK ports can touch beside `AgentFrame`: what only a pass, a tick or the
host changes of the scheduler, the channels' clocks, the FIFOs' latches and requests, and the timers' overflows. -/
def ClockFrame (s t : State) : Prop :=
  t.sched = { s.sched with halt := t.sched.halt, waitActive := t.sched.waitActive, waitMask := t.sched.waitMask } ∧
  (t.apu.phase = s.apu.phase ∧ t.apu.fsCounter = s.apu.fsCounter ∧ t.apu.fsStep = s.apu.fsStep ∧
    t.apu.audioWait = s.apu.audioWait) ∧
  (t.fifoA.latch = s.fifoA.latch ∧ t.fifoA.requests = s.fifoA.requests) ∧
  (t.fifoB.latch = s.fifoB.latch ∧ t.fifoB.requests = s.fifoB.requests) ∧
  ∀ n, (t.timer n).overflows = (s.timer n).overflows

theorem ClockFrame.refl (s : State) : ClockFrame s s :=
  ⟨rfl, ⟨rfl, rfl, rfl, rfl⟩, ⟨rfl, rfl⟩, ⟨rfl, rfl⟩, fun _ => rfl⟩

theorem ClockFrame.trans {s t u : State} (h : ClockFrame s t) (k : ClockFrame t u) : ClockFrame s u := by
  obtain ⟨h1, ⟨h2, h3, h4, h5⟩, ⟨h6, h7⟩, ⟨h8, h9⟩, h10⟩ := h
  obtain ⟨k1, ⟨k2, k3, k4, k5⟩, ⟨k6, k7⟩, ⟨k8, k9⟩, k10⟩ := k
  refine ⟨?_, ⟨k2.trans h2, k3.trans h3, k4.trans h4, k5.trans h5⟩, ⟨k6.trans h6, k7.trans h7⟩,
    ⟨k8.trans h8, k9.trans h9⟩, fun n => (k10 n).trans (h10 n)⟩
  rw [k1, h1]

/-- Pushes keep a FIFO's latch and its count of requests (R701). -/
theorem Fifo.write_kept (q : Fifo) (be : BitVec 2) (data : Half) :
    (q.write be data).latch = q.latch ∧ (q.write be data).requests = q.requests := by
  unfold Fifo.write
  generalize laneBytes be data = bytes
  induction bytes generalizing q with
  | nil => exact ⟨rfl, rfl⟩
  | cons b bs ih =>
    rw [List.foldl_cons, (ih _).1, (ih _).2, q.push_eq b]
    exact ⟨rfl, rfl⟩

/-- A write of one timer's registers keeps every overflow count (R501, R502). -/
theorem setTimer_overflows {s : State} {n : Fin 4} {t : Timer} (h : t.overflows = (s.timer n).overflows) (m : Fin 4) :
    ((s.setTimer n t).timer m).overflows = (s.timer m).overflows := by
  by_cases hm : m = n
  · subst hm
    rw [State.timer_setTimer_same, h]
  · rw [State.timer_setTimer_other s m n t hm]

theorem Timer.writeControl_overflows (t : Timer) (be : BitVec 2) (data : Half) :
    (t.writeControl be data).overflows = t.overflows := by
  unfold Timer.writeControl
  dsimp only
  split <;> rfl

theorem leaveRunning_clockFrame (h : HaltState) (s : State) : ClockFrame s (s.leaveRunning h) := by
  unfold State.leaveRunning
  split <;> exact ⟨rfl, ⟨rfl, rfl, rfl, rfl⟩, ⟨rfl, rfl⟩, ⟨rfl, rfl⟩, fun _ => rfl⟩

theorem cpuIntrwait_clockFrame (mask : BitVec 14) (s : State) : ClockFrame s (cpuIntrwait mask s) := by
  unfold cpuIntrwait
  split <;> exact ⟨rfl, ⟨rfl, rfl, rfl, rfl⟩, ⟨rfl, rfl⟩, ⟨rfl, rfl⟩, fun _ => rfl⟩

/-- A register write (R205, R211). -/
theorem writeReg_clockFrame (be : BitVec 2) (data : Half) (r : Reg) (s : State) :
    ClockFrame s (writeReg be data r s) := by
  cases r with
  | soundcntX =>
    simp only [writeReg, writeSoundcntX]
    (repeat' split) <;> exact .refl s
  | fifoA h =>
    exact ⟨rfl, ⟨rfl, rfl, rfl, rfl⟩, s.fifoA.write_kept be data, ⟨rfl, rfl⟩, fun _ => rfl⟩
  | fifoB h =>
    exact ⟨rfl, ⟨rfl, rfl, rfl, rfl⟩, ⟨rfl, rfl⟩, s.fifoB.write_kept be data, fun _ => rfl⟩
  | tmcntL n => exact ⟨rfl, ⟨rfl, rfl, rfl, rfl⟩, ⟨rfl, rfl⟩, ⟨rfl, rfl⟩, setTimer_overflows rfl⟩
  | tmcntH n =>
    exact ⟨rfl, ⟨rfl, rfl, rfl, rfl⟩, ⟨rfl, rfl⟩, ⟨rfl, rfl⟩,
      setTimer_overflows ((s.timer n).writeControl_overflows be data)⟩
  | ime =>
    simp only [writeReg, writeIme]
    split <;> exact ⟨rfl, ⟨rfl, rfl, rfl, rfl⟩, ⟨rfl, rfl⟩, ⟨rfl, rfl⟩, fun _ => rfl⟩
  | haltcnt =>
    simp only [writeReg, writeHaltcnt]
    split_ifs
    · exact leaveRunning_clockFrame .stopped s
    · exact leaveRunning_clockFrame .halted s
    · exact .refl s
  | _ => exact .refl s

theorem ClockFrame.agentClosed (s : State) : AgentClosed (ClockFrame s) where
  write be data r t h := h.trans (writeReg_clockFrame be data r t)
  halt t h := h.trans (leaveRunning_clockFrame .halted t)
  stop t h := h.trans (leaveRunning_clockFrame .stopped t)
  wait mask t h := h.trans (cpuIntrwait_clockFrame mask t)
  request _ _ h := h
  pop _ _ _ h := h
  emit _ _ h := h

theorem performIssues_clockFrame (is : List Issue) (s : State) : ClockFrame s (performIssues is s) :=
  performIssues_induct (ClockFrame.agentClosed s) is s (.refl s)

/-- A register write sets no interrupt flag (R418). -/
theorem writeReg_flags {be : BitVec 2} {data : Half} {r : Reg} {s : State} {n : Nat}
    (h : (writeReg be data r s).irq.flags.getLsbD n = true) : s.irq.flags.getLsbD n = true := by
  cases r with
  | iflags =>
    change (s.irq.flags &&& _).getLsbD n = true at h
    rw [BitVec.getLsbD_and, Bool.and_eq_true] at h
    exact h.1
  | soundcntX => simp only [writeReg, writeSoundcntX] at h; (repeat' split at h) <;> exact h
  | ime => simp only [writeReg, writeIme] at h; split at h <;> exact h
  | haltcnt =>
    simp only [writeReg, writeHaltcnt, cpuStop, cpuHalt] at h
    (repeat' split at h) <;> simpa using h
  | _ => exact h

/-! ## The channel step (R620, R625-R628) -/

/-- Everything a clock of the channels can touch: the channels and the frame sequencer's place. -/
def SoundFrame (s t : State) : Prop :=
  t = { s with
    apu := { s.apu with fsCounter := t.apu.fsCounter, fsStep := t.apu.fsStep }
    ch1 := t.ch1, sweep := t.sweep, ch2 := t.ch2, wave := t.wave, noise := t.noise }

theorem SoundFrame.refl (s : State) : SoundFrame s s := rfl

theorem SoundFrame.trans {s t u : State} (h : SoundFrame s t) (k : SoundFrame t u) : SoundFrame s u := by
  unfold SoundFrame at *
  rw [k, h]

theorem SoundFrame.ite {op : State → State} (h : ∀ s, SoundFrame s (op s)) (c : Prop) [Decidable c] (s : State) :
    SoundFrame s (if c then op s else s) := by
  split
  · exact h s
  · exact .refl s

theorem sweepClock_soundFrame (s : State) : SoundFrame s (sweepClock s) := by
  unfold sweepClock
  dsimp only
  (repeat' split) <;> rfl

theorem fsClock_soundFrame (s : State) : SoundFrame s (fsClock s) := by
  have h := ((SoundFrame.ite (op := lengthClock) (fun _ => rfl) (s.apu.fsStep.toNat % 2 = 0) s).trans
    (.ite sweepClock_soundFrame (s.apu.fsStep.toNat % 4 = 2) _)).trans
    (.ite (op := envelopeClock) (fun _ => rfl) (s.apu.fsStep.toNat = 7) _)
  exact h.trans rfl

/-- A change of the frame sequencer's counter only. -/
theorem fsCounter_soundFrame (s : State) (c : BitVec 13) :
    SoundFrame s { s with apu := { s.apu with fsCounter := c } } := rfl

theorem apuStep_soundFrame (s : State) : SoundFrame s (apuStep s) := by
  have htimers : SoundFrame s (stepTimers s) := rfl
  unfold apuStep
  dsimp only
  split
  · exact htimers.trans ((fsCounter_soundFrame _ _).trans (fsClock_soundFrame _))
  · exact htimers.trans (fsCounter_soundFrame _ _)

/-- States with the same channels and the same place of the frame sequencer. -/
def SameSound (s u : State) : Prop :=
  (u.apu.fsCounter = s.apu.fsCounter ∧ u.apu.fsStep = s.apu.fsStep) ∧
  u.ch1 = s.ch1 ∧ u.sweep = s.sweep ∧ u.ch2 = s.ch2 ∧ u.wave = s.wave ∧ u.noise = s.noise

theorem SameSound.trans {s t u : State} (h : SameSound s t) (k : SameSound t u) : SameSound s u := by
  obtain ⟨⟨h1, h2⟩, h3, h4, h5, h6, h7⟩ := h
  obtain ⟨⟨k1, k2⟩, k3, k4, k5, k6, k7⟩ := k
  exact ⟨⟨k1.trans h1, k2.trans h2⟩, k3.trans h3, k4.trans h4, k5.trans h5, k6.trans h6, k7.trans h7⟩

theorem SameSound.ite {c d : Prop} [Decidable c] [Decidable d] {s u s' u' : State} (hc : c ↔ d) (h : SameSound s u)
    (h' : SameSound s' u') : SameSound (if c then s else s') (if d then u else u') := by
  simp only [hc]
  split
  · exact h
  · exact h'

theorem sweepClock_sameSound {s u : State} (h : SameSound s u) : SameSound (sweepClock s) (sweepClock u) := by
  have ⟨hplace, hch1, hsweep, hch2, hwave, hnoise⟩ := h
  unfold sweepClock
  rw [hch1, hsweep]
  have hnew : ∀ c w, SameSound { s with ch1 := c, sweep := w } { u with ch1 := c, sweep := w } :=
    fun _ _ => ⟨hplace, rfl, rfl, hch2, hwave, hnoise⟩
  exact .ite .rfl h (.ite .rfl (hnew _ _) (.ite .rfl (hnew _ _) (.ite .rfl (hnew _ _) (hnew _ _))))

theorem lengthClock_sameSound {s u : State} (h : SameSound s u) : SameSound (lengthClock s) (lengthClock u) := by
  obtain ⟨hplace, h1, h2, h3, h4, h5⟩ := h
  exact ⟨hplace, congrArg Square.clockLength h1, h2, congrArg Square.clockLength h3, congrArg Wave.clockLength h4,
    congrArg Noise.clockLength h5⟩

theorem envelopeClock_sameSound {s u : State} (h : SameSound s u) : SameSound (envelopeClock s) (envelopeClock u) := by
  obtain ⟨hplace, h1, h2, h3, h4, h5⟩ := h
  exact ⟨hplace, congrArg Square.clockEnvelope h1, h2, congrArg Square.clockEnvelope h3, h4,
    congrArg Noise.clockEnvelope h5⟩

theorem stepTimers_sameSound {s u : State} (h : SameSound s u) : SameSound (stepTimers s) (stepTimers u) := by
  obtain ⟨hplace, h1, h2, h3, h4, h5⟩ := h
  exact ⟨hplace, congrArg Square.stepTimer h1, h2, congrArg Square.stepTimer h3, congrArg Wave.stepTimer h4,
    congrArg Noise.stepTimer h5⟩

theorem fsClock_sameSound {s u : State} (h : SameSound s u) : SameSound (fsClock s) (fsClock u) := by
  have hstep : u.apu.fsStep = s.apu.fsStep := h.1.2
  have hlength := SameSound.ite (c := s.apu.fsStep.toNat % 2 = 0) .rfl (lengthClock_sameSound h) h
  have hsweep := SameSound.ite (c := s.apu.fsStep.toNat % 4 = 2) .rfl (sweepClock_sameSound hlength) hlength
  have ⟨⟨hcounter, hstep'⟩, hchannels⟩ :=
    SameSound.ite (c := s.apu.fsStep.toNat = 7) .rfl (envelopeClock_sameSound hsweep) hsweep
  unfold fsClock
  rw [hstep]
  exact ⟨⟨hcounter, congrArg (· + 1) hstep'⟩, hchannels⟩

theorem apuStep_sameSound {s u : State} (h : SameSound s u) : SameSound (apuStep s) (apuStep u) := by
  have ⟨⟨hcounter, hstep⟩, hchannels⟩ := stepTimers_sameSound h
  unfold apuStep
  dsimp only
  rw [hcounter]
  exact .ite .rfl (fsClock_sameSound ⟨⟨rfl, hstep⟩, hchannels⟩) ⟨⟨rfl, hstep⟩, hchannels⟩

end Sys2Proof.Machine
end

section
/-! PROOFS. The words inside an oracle call act as they do anywhere else (R940-R943): they keep the invariants of R902,
and in a state of the invariants the model's operations for them are those of `exec`. -/

namespace Sys2Proof.Machine

open Sys2Proof.Claims (performed performedAll issued issuedAll videoIssued accessWords accessValue halvesRead)

/-! ## The invariants (R902) -/

/-- The bounds of the length counters (R902). -/
def State.lengthsOk (s : State) : Prop :=
  s.ch1.length ≤ 64 ∧ s.ch2.length ≤ 64 ∧ s.wave.length ≤ 256 ∧ s.noise.length ≤ 64

/-- The invariants, each a proposition of its own. -/
theorem invariants_iff (s : State) :
    s.invariants = true ↔
      s.fifoA.queue.length ≤ Config.fifoDepth ∧ s.fifoB.queue.length ≤ Config.fifoDepth ∧
      s.ring.rb.length ≤ s.params.rbCap.val ∧
      fits14 s.irq.ie = true ∧ fits14 s.irq.flags = true ∧ fits14 s.sched.waitMask = true ∧
      s.sched.speed ≠ 0 ∧ s.apu.bias.getLsbD 0 = false ∧ s.lengthsOk := by
  simp only [State.invariants, State.lengthsOk, Bool.and_eq_true, decide_eq_true_eq, bne_iff_ne, Bool.not_eq_true',
    and_assoc]

/-- A length load of a 6-bit field gives 1 to 64 (R602, R604, R609). -/
theorem loadLength6_le (be : BitVec 2) (data : Half) {old : BitVec 7} (h : old ≤ 64) :
    loadLength6 be data old ≤ 64 := by
  unfold loadLength6
  split
  · bv_omega
  · exact h

/-- A length load of an 8-bit field gives 1 to 256 (R607). -/
theorem loadLength8_le (be : BitVec 2) (data : Half) {old : BitVec 9} (h : old ≤ 256) :
    loadLength8 be data old ≤ 256 := by
  unfold loadLength8
  split
  · bv_omega
  · exact h

/-- A write of the control register keeps the length, or a trigger reloads it (R603, R605, R629). -/
theorem Square.writeControl_length (c : Square) (be : BitVec 2) (data : Half) :
    (c.writeControl be data).length = c.length ∨ (c.writeControl be data).length = 64 := by
  unfold Square.writeControl
  dsimp only
  split
  · exact (ite_eq_or_eq (c.length = 0) 64 c.length).symm
  · exact .inl rfl

/-- A write of the control register keeps the length, or a trigger reloads it (R608, R630). -/
theorem Wave.writeControl_length (c : Wave) (be : BitVec 2) (data : Half) :
    (c.writeControl be data).length = c.length ∨ (c.writeControl be data).length = 256 := by
  unfold Wave.writeControl
  dsimp only
  split
  · exact (ite_eq_or_eq (c.length = 0) 256 c.length).symm
  · exact .inl rfl

/-- A write of the control register keeps the length, or a trigger reloads it (R610, R631). -/
theorem Noise.writeControl_length (c : Noise) (be : BitVec 2) (data : Half) :
    (c.writeControl be data).length = c.length ∨ (c.writeControl be data).length = 64 := by
  unfold Noise.writeControl
  dsimp only
  split
  · exact (ite_eq_or_eq (c.length = 0) 64 c.length).symm
  · exact .inl rfl

/-- So the bound of a length, which is the reload value, holds after it. -/
theorem length_le_of_reload {w : Nat} {old new bound : BitVec w} (h : new = old ∨ new = bound)
    (hold : old ≤ bound) : new ≤ bound := by
  rcases h with rfl | rfl
  · exact hold
  · exact BitVec.le_refl _

theorem Wave.writeRam_length (c : Wave) (k : Fin 8) (be : BitVec 2) (data : Half) :
    (c.writeRam k be data).length = c.length := by
  unfold Wave.writeRam
  split_ifs <;> rfl

/-- A reset strobe empties a FIFO (R704). -/
theorem Fifo.control_length_le {q : Fifo} (h : q.queue.length ≤ Config.fifoDepth) (vol enR enL timer reset : Bool) :
    (q.control vol enR enL timer reset).queue.length ≤ Config.fifoDepth := by
  cases reset
  · exact h
  · exact Nat.zero_le _

theorem fits14_and_right (a : Half) {b : Half} (h : fits14 b = true) : fits14 (a &&& b) = true := by
  simp only [fits14, beq_iff_eq] at *
  rw [BitVec.and_assoc, h]
  exact BitVec.and_zero

theorem fits14_and_left {a : Half} (h : fits14 a = true) (b : Half) : fits14 (a &&& b) = true :=
  BitVec.and_comm a b ▸ fits14_and_right b h

theorem fits14_setWidth (x : BitVec 14) : fits14 (x.setWidth 16) = true :=
  beq_iff_eq.mpr (setWidth_and_high x)

/-- Writes of SOUNDBIAS store bit 0 as 0 (R708). -/
theorem bias_bit_zero (m : Half) : ((m &&& 0xC3FE).extractLsb' 0 10).getLsbD 0 = false := by
  simp

theorem leaveRunning_invariants (h : HaltState) {s : State} (hs : s.invariants = true) :
    (s.leaveRunning h).invariants = true := by
  unfold State.leaveRunning
  split <;> exact hs

theorem cpuIntrwait_invariants (mask : BitVec 14) {s : State} (hs : s.invariants = true) :
    (cpuIntrwait mask s).invariants = true := by
  unfold cpuIntrwait
  split
  · rw [invariants_iff] at *
    obtain ⟨hA, hB, hring, hie, hflags, -, hspeed, hbias, hlengths⟩ := hs
    exact ⟨hA, hB, hring, hie, hflags, fits14_setWidth mask, hspeed, hbias, hlengths⟩
  · exact hs

/-- A register write (R205); a write that is not named here stores nothing that the invariants bound. -/
theorem writeReg_invariants (be : BitVec 2) (data : Half) (r : Reg) {s : State} (hs : s.invariants = true) :
    (writeReg be data r s).invariants = true := by
  have hs' := hs
  rw [invariants_iff] at hs'
  obtain ⟨hA, hB, hring, hie, hflags, hmask, hspeed, hbias, hlengths⟩ := hs'
  have ⟨h1, h2, h3, h4⟩ := hlengths
  cases r with
  | sound1cntH =>
    exact (invariants_iff _).mpr
      ⟨hA, hB, hring, hie, hflags, hmask, hspeed, hbias, loadLength6_le be data h1, h2, h3, h4⟩
  | sound1cntX =>
    exact (invariants_iff _).mpr ⟨hA, hB, hring, hie, hflags, hmask, hspeed, hbias,
      length_le_of_reload (s.ch1.writeControl_length be data) h1, h2, h3, h4⟩
  | sound2cntL =>
    exact (invariants_iff _).mpr
      ⟨hA, hB, hring, hie, hflags, hmask, hspeed, hbias, h1, loadLength6_le be data h2, h3, h4⟩
  | sound2cntH =>
    exact (invariants_iff _).mpr ⟨hA, hB, hring, hie, hflags, hmask, hspeed, hbias, h1,
      length_le_of_reload (s.ch2.writeControl_length be data) h2, h3, h4⟩
  | sound3cntH =>
    exact (invariants_iff _).mpr
      ⟨hA, hB, hring, hie, hflags, hmask, hspeed, hbias, h1, h2, loadLength8_le be data h3, h4⟩
  | sound3cntX =>
    exact (invariants_iff _).mpr ⟨hA, hB, hring, hie, hflags, hmask, hspeed, hbias, h1, h2,
      length_le_of_reload (s.wave.writeControl_length be data) h3, h4⟩
  | sound4cntL =>
    exact (invariants_iff _).mpr
      ⟨hA, hB, hring, hie, hflags, hmask, hspeed, hbias, h1, h2, h3, loadLength6_le be data h4⟩
  | sound4cntH =>
    exact (invariants_iff _).mpr ⟨hA, hB, hring, hie, hflags, hmask, hspeed, hbias, h1, h2, h3,
      length_le_of_reload (s.noise.writeControl_length be data) h4⟩
  | waveRam k =>
    exact (invariants_iff _).mpr ⟨hA, hB, hring, hie, hflags, hmask, hspeed, hbias, h1, h2,
      (s.wave.writeRam_length k be data).symm ▸ h3, h4⟩
  | soundbias =>
    exact (invariants_iff _).mpr ⟨hA, hB, hring, hie, hflags, hmask, hspeed, bias_bit_zero _, hlengths⟩
  | fifoA h =>
    exact (invariants_iff _).mpr
      ⟨s.fifoA.write_length_le be data hA, hB, hring, hie, hflags, hmask, hspeed, hbias, hlengths⟩
  | fifoB h =>
    exact (invariants_iff _).mpr
      ⟨hA, s.fifoB.write_length_le be data hB, hring, hie, hflags, hmask, hspeed, hbias, hlengths⟩
  | soundcntH =>
    exact (invariants_iff _).mpr ⟨Fifo.control_length_le hA _ _ _ _ _, Fifo.control_length_le hB _ _ _ _ _,
      hring, hie, hflags, hmask, hspeed, hbias, hlengths⟩
  | ie =>
    exact (invariants_iff _).mpr
      ⟨hA, hB, hring, fits14_and_right _ (by decide), hflags, hmask, hspeed, hbias, hlengths⟩
  | iflags =>
    exact (invariants_iff _).mpr ⟨hA, hB, hring, hie, fits14_and_left hflags _, hmask, hspeed, hbias, hlengths⟩
  | soundcntX => simp only [writeReg, writeSoundcntX]; (repeat' split) <;> exact hs
  | ime => simp only [writeReg, writeIme]; split <;> exact hs
  | haltcnt =>
    simp only [writeReg, writeHaltcnt]
    split_ifs
    · exact leaveRunning_invariants .stopped hs
    · exact leaveRunning_invariants .halted hs
    · exact hs
  | _ => exact hs

theorem irqRequest_invariants (bits : BitVec 14) {s : State} (hs : s.invariants = true) :
    (irqRequest bits s).invariants = true := by
  rw [invariants_iff] at *
  obtain ⟨hA, hB, hring, hie, hflags, hrest⟩ := hs
  exact ⟨hA, hB, hring, hie, fits14_or hflags (fits14_setWidth bits), hrest⟩

theorem ringPop_invariants (pad : Bool) (count : Half) {s : State} (hs : s.invariants = true) :
    (ringPop pad count s).invariants = true := by
  rw [invariants_iff] at *
  obtain ⟨hA, hB, hring, hrest⟩ := hs
  exact ⟨hA, hB, (List.drop_sublist _ _).length_le.trans hring, hrest⟩

/-- No word inside an oracle call leaves the invariants. -/
theorem invariants_agentClosed : AgentClosed (fun s => s.invariants = true) where
  write be data r _ h := writeReg_invariants be data r h
  halt _ h := leaveRunning_invariants .halted h
  stop _ h := leaveRunning_invariants .stopped h
  wait mask _ h := cpuIntrwait_invariants mask h
  request bits _ h := irqRequest_invariants bits h
  pop pad count _ h := ringPop_invariants pad count h
  emit _ _ h := h

theorem performIssue_invariants (x : Issue) {s : State} (hs : s.invariants = true) :
    (performIssue s x).invariants = true :=
  performIssue_induct invariants_agentClosed x s hs

/-! ## A word inside a call, and the same word presented from outside -/

theorem agentExec_writeRow (be : BitVec 2) (data : Half) (r : Reg) (s : State) :
    agentExec (writeRow be data r) s = writeReg be data r s := by cases r <;> rfl

theorem agentExec_readRow (r : Reg) (s : State) : agentExec (readRow r) s = s.readResult (readValue r s) := by
  cases r <;> rfl

/-- The ports an agent of the emulation thread and the sink issue on (R940, R941, R943, R222). -/
def AgentPort (p : Port) : Prop := p ≠ .host ∧ p ≠ .internal

/-- An instruction of these ports does inside a call what it does elsewhere; a read shows a register's stored bits,
which the invariants keep under its mask. -/
theorem exec_eq_agentExec {w : Word} {i : Instr} (hrow : rowInstr w = some i) (hp : AgentPort i.port) {s : State}
    (hs : s.invariants = true) : exec i s = .next (agentExec i s) := by
  rcases wordClass_cases w with hc | hc | hc
  · cases hr : regAt (wordHaddr w) with
    | none =>
      cases hrow.symm.trans (rowInstr_write_unmapped hc hr)
      rfl
    | some r =>
      cases hrow.symm.trans (rowInstr_write_mapped hc hr)
      rw [exec_writeRow, agentExec_writeRow]
  · cases hr : regAt (wordHaddr w) with
    | none =>
      cases hrow.symm.trans (rowInstr_read_unmapped hc hr)
      rfl
    | some r =>
      cases hrow.symm.trans (rowInstr_read_mapped hc hr)
      rw [exec_readRow r hs, agentExec_readRow]
  · rcases hc with hc | hc
    · simp only [rowInstr, hc, BitVec.ofNat_eq_ofNat, BitVec.reduceToNat] at hrow
      split at hrow <;> cases hrow
      case h_1 | h_2 | h_3 => exact absurd rfl hp.1
      all_goals rfl
    · have hport := rowInstr_port hrow
      rw [hc] at hport
      exact absurd hport hp.2

theorem performed_eq_agentWord {p : Port} (hp : AgentPort p) (w : Word) {s : State} (hs : s.invariants = true) :
    performed p w s = agentWord p w s := by
  unfold performed agentWord
  cases hdec : decode p w with
  | refused e => rfl
  | instr i =>
    obtain ⟨hrow, rfl, -⟩ := decode_instr hdec
    simp only [exec_eq_agentExec hrow hp hs]

theorem performedAll_eq_agentWords {p : Port} (hp : AgentPort p) (ws : List Word) {s : State}
    (hs : s.invariants = true) : performedAll p ws s = agentWords p ws s := by
  unfold performedAll agentWords
  induction ws generalizing s with
  | nil => rfl
  | cons w ws ih =>
    rw [List.foldl_cons, List.foldl_cons, performed_eq_agentWord hp w hs,
      ih (agentWord_induct invariants_agentClosed p w s hs)]

/-! ## Bus accesses (R203, R204, R331) -/

theorem word_write (off : BitVec 12) (be : BitVec 2) (data : Half) :
    Claims.writeWord be.toNat off.toNat data.toNat = (Transaction.write off be data).word := by
  apply BitVec.eq_of_toNat_eq
  change _ = (regWord 0 be (off.extractLsb' 1 11) data).toNat
  rw [Claims.writeWord, regWord_toNat, BitVec.extractLsb'_toNat, Nat.shiftRight_eq_div_pow, BitVec.toNat_ofNat]
  have := be.isLt
  have := off.isLt
  have := data.isLt
  simp
  omega

theorem word_read (off : BitVec 12) : Claims.readWord off.toNat = (Transaction.read off).word := by
  apply BitVec.eq_of_toNat_eq
  change _ = (regWord 1 3 (off.extractLsb' 1 11) 0).toNat
  rw [Claims.readWord, regWord_toNat, BitVec.extractLsb'_toNat, Nat.shiftRight_eq_div_pow, BitVec.toNat_ofNat]
  have := off.isLt
  simp
  omega

/-- The offset of a halfword and of a 32-bit access, as multiples (R203, R204). -/
theorem halfword_offset (o : BitVec 12) : (o &&& 0xFFE).toNat = o.toNat / 2 * 2 := by
  have hclear : o &&& 0xFFE = o.extractLsb' 1 11 ++ 0#1 := by
    apply BitVec.eq_of_getLsbD_eq
    intro i hi
    simp only [BitVec.getLsbD_and, BitVec.getLsbD_append]
    interval_cases i <;> simp
  rw [hclear, append_toNat, BitVec.extractLsb'_toNat, Nat.shiftRight_eq_div_pow]
  have := o.isLt
  simp
  omega

theorem word_offset (o : BitVec 12) : (o &&& 0xFFC).toNat = o.toNat / 4 * 4 := by
  have hclear : o &&& 0xFFC = o.extractLsb' 2 10 ++ 0#2 := by
    apply BitVec.eq_of_getLsbD_eq
    intro i hi
    simp only [BitVec.getLsbD_and, BitVec.getLsbD_append]
    interval_cases i <;> simp
  rw [hclear, append_toNat, BitVec.extractLsb'_toNat, Nat.shiftRight_eq_div_pow]
  have := o.isLt
  simp
  omega

theorem second_offset (o : BitVec 12) : ((o &&& 0xFFC) + 2).toNat = o.toNat / 4 * 4 + 2 := by
  rw [BitVec.toNat_add, word_offset]
  have := o.isLt
  simp
  omega

theorem writeWord_halfword (be off data : Nat) :
    Claims.writeWord be (off / 2 * 2) data = Claims.writeWord be off data := by
  rw [Claims.writeWord, Nat.mul_div_cancel _ (by decide), Claims.writeWord]

theorem readWord_halfword (off : Nat) : Claims.readWord (off / 2 * 2) = Claims.readWord off := by
  rw [Claims.readWord, Nat.mul_div_cancel _ (by decide), Claims.readWord]

/-- An offset is odd when its bit 0 is 1. -/
theorem odd_offset_iff (o : BitVec 12) : o.toNat % 2 = 1 ↔ o.getLsbD 0 = true := by
  rw [BitVec.getLsbD, Nat.testBit_zero, decide_eq_true_iff]

/-- The words of an access are its transactions' (R331). -/
theorem accessWords_eq (a : BusAccess) : accessWords a = a.split.map Transaction.word := by
  cases a with
  | wr8 o v =>
    simp only [accessWords, BusAccess.split, odd_offset_iff]
    split
    · rw [List.map_singleton, ← word_write, halfword_offset, writeWord_halfword, append_toNat]
      simp
    · rw [List.map_singleton, ← word_write, halfword_offset, writeWord_halfword, append_toNat]
      simp
  | rd8 o | rd16 o =>
    simp only [accessWords, BusAccess.split, List.map_singleton, ← word_read, halfword_offset, readWord_halfword]
  | wr16 o v =>
    simp only [accessWords, BusAccess.split, List.map_singleton, ← word_write, halfword_offset, writeWord_halfword]
    rfl
  | wr32 o v =>
    simp only [accessWords, BusAccess.split, List.map_cons, List.map_nil, ← word_write, word_offset, second_offset,
      field_toNat]
    have hhigh : v.toNat / 2 ^ 16 % 2 ^ 16 = v.toNat / 65536 := by have := v.isLt; omega
    rw [hhigh, Nat.pow_zero, Nat.div_one]
    rfl
  | rd32 o =>
    simp only [accessWords, BusAccess.split, List.map_cons, List.map_nil, ← word_read, word_offset, second_offset]

/-- A read transaction sends the halfword at its offset (R206, R207). -/
theorem agentWord_read (off : BitVec 12) (s : State) :
    agentWord .bus (Transaction.read off).word s = s.emit (.readData (offsetRead off s)) := by
  change agentWord .bus (regWord 1 3 (off.extractLsb' 1 11) 0) s = _
  unfold agentWord offsetRead
  cases hr : regAt (off.extractLsb' 1 11) with
  | none =>
    rw [decode_unmappedRead hr]
    rfl
  | some r =>
    rw [← haddr_of_regAt hr, ← readWord, decode_readWord]
    exact agentExec_readRow r s

/-- The halfwords among what was sent, in the order of time; `new` is newest first. -/
def halvesSent (new : List Output) : List Nat :=
  new.reverse.filterMap fun o => match o with | .readData v => some v.toNat | _ => none

theorem halvesSent_append (new old : List Output) : halvesSent (new ++ old) = halvesSent old ++ halvesSent new := by
  simp [halvesSent]

theorem halvesRead_eq {s t : State} {new : List Output} (h : t.out = new ++ s.out) :
    halvesRead s t = halvesSent new := by
  unfold halvesRead
  rw [h, List.length_append, Nat.add_sub_cancel, List.take_left]
  rfl

/-- A word of the sink is a RING_POP or is refused, whatever the state (R308, R822). -/
theorem agentWord_sink_cases (w : Word) :
    (∃ pad count, ∀ s, agentWord .sink w s = ringPop pad count s) ∨
    (∃ e, ∀ s : State, agentWord .sink w s = s.refuse .sink e w) := by
  unfold agentWord
  cases hdec : decode .sink w with
  | refused e => exact .inr ⟨e, fun _ => rfl⟩
  | instr i =>
    obtain ⟨-, hport, -⟩ := decode_instr hdec
    obtain ⟨pad, count, rfl⟩ := eq_ringPop_of_port_sink hport
    exact .inl ⟨pad, count, fun _ => rfl⟩

/-- The sink's words send no halfword (R822). -/
theorem agentWords_sink_out (ws : List Word) (s : State) :
    ∃ new, (agentWords .sink ws s).out = new ++ s.out ∧ halvesSent new = [] := by
  unfold agentWords
  induction ws generalizing s with
  | nil => exact ⟨[], rfl, rfl⟩
  | cons w ws ih =>
    rw [List.foldl_cons]
    obtain ⟨new, hout, hnew⟩ := ih (agentWord .sink w s)
    obtain ⟨o, ho, hsilent⟩ : ∃ o, (agentWord .sink w s).out = o :: s.out ∧ halvesSent [o] = [] := by
      obtain ⟨pad, count, h⟩ | ⟨e, h⟩ := agentWord_sink_cases w <;> exact ⟨_, congrArg State.out (h s), rfl⟩
    refine ⟨new ++ [o], ?_, ?_⟩
    · rw [hout, ho, List.append_assoc]
      rfl
    · rw [halvesSent_append, hsilent, hnew]
      rfl

/-- The halfwords of an access of one read, and of two with the sink's words between them. -/
theorem halvesRead_one (between : List Word) (v : Half) (s : State) :
    halvesRead s (agentWords .sink between (s.emit (.readData v))) = [v.toNat] := by
  obtain ⟨new, hout, hnew⟩ := agentWords_sink_out between (s.emit (.readData v))
  rw [halvesRead_eq (new := new ++ [.readData v]) (by rw [hout, List.append_assoc]; rfl), halvesSent_append, hnew]
  rfl

theorem halvesRead_two (between : List Word) (v w : Half) (s : State) :
    halvesRead s ((agentWords .sink between (s.emit (.readData v))).emit (.readData w)) = [v.toNat, w.toNat] := by
  obtain ⟨new, hout, hnew⟩ := agentWords_sink_out between (s.emit (.readData v))
  rw [halvesRead_eq (new := [.readData w] ++ (new ++ [.readData v]))
    (by rw [State.emit_out, hout, List.append_assoc, List.append_assoc]; rfl),
    halvesSent_append, halvesSent_append, hnew]
  rfl

/-- The byte that an 8-bit read picks (R203). -/
theorem pickedByte_eq (o : BitVec 12) (h : Half) :
    BitVec.ofNat 32 (if o.toNat % 2 = 1 then h.toNat / 256 else h.toNat % 256) =
      (if o.getLsbD 0 then h.extractLsb' 8 8 else h.extractLsb' 0 8).setWidth 32 := by
  symm
  apply eq_ofNat_of_toNat
  have := h.isLt
  simp only [odd_offset_iff]
  split <;> (rw [BitVec.toNat_setWidth, BitVec.extractLsb'_toNat, Nat.shiftRight_eq_div_pow]; omega)

/-- The state after an access's words, with the sink's between its two transactions. -/
def accessed (a : BusAccess) (between : List Word) (s : State) : State :=
  agentWords .bus ((a.split.map Transaction.word).drop 1)
    (agentWords .sink between (agentWords .bus ((a.split.map Transaction.word).take 1) s))

/-- The halfwords at the offsets of an access's reads. -/
def BusAccess.halves (a : BusAccess) (s : State) : List Half :=
  a.split.filterMap fun t => match t with | .read off => some (offsetRead off s) | .write _ _ _ => none

/-- A read access delivers its value; a write delivers none (R203). -/
def State.deliver (s : State) : Option (BitVec 32) → State
  | some v => s.emit (.accessData v)
  | none => s

theorem performAccess_eq (a : BusAccess) (between : List Word) (s : State) :
    performAccess a between s = (accessed a between s).deliver (a.result (a.halves s)) := rfl

/-- What a bus access delivers, in the statement's numbers: the registers do not change between the transactions of a
read, whatever the sink takes (R203, R204, R222). -/
theorem accessValue_eq_result (a : BusAccess) (between : List Word) (s : State) :
    (accessValue a (halvesRead s (accessed a between s))).map (BitVec.ofNat 32) = a.result (a.halves s) := by
  cases a with
  | wr8 | wr16 | wr32 => rfl
  | rd8 o =>
    have ht : accessed (.rd8 o) between s =
        agentWords .sink between (s.emit (.readData (offsetRead (o &&& 0xFFE) s))) :=
      congrArg (agentWords .sink between) (agentWord_read _ s)
    rw [ht, halvesRead_one]
    exact congrArg some (pickedByte_eq o _)
  | rd16 o =>
    have ht : accessed (.rd16 o) between s =
        agentWords .sink between (s.emit (.readData (offsetRead (o &&& 0xFFE) s))) :=
      congrArg (agentWords .sink between) (agentWord_read _ s)
    rw [ht, halvesRead_one]
    exact congrArg some (BitVec.ofNat_toNat 32 _)
  | rd32 o =>
    let u := agentWords .sink between (s.emit (.readData (offsetRead (o &&& 0xFFC) s)))
    have hsame : offsetRead ((o &&& 0xFFC) + 2) u = offsetRead ((o &&& 0xFFC) + 2) s :=
      ((alike_emit s _).trans (agentWords_sink_alike between _)).same (offsetRead _)
    have ht : accessed (.rd32 o) between s = u.emit (.readData (offsetRead ((o &&& 0xFFC) + 2) s)) := by
      rw [← hsame, ← agentWord_read]
      exact congrArg (fun x => agentWord .bus _ (agentWords .sink between x)) (agentWord_read _ s)
    rw [ht, halvesRead_two]
    refine congrArg some (eq_ofNat_of_toNat ?_).symm
    rw [append_toNat]
    simp [Nat.add_comm, Nat.mul_comm]

/-! ## Oracle calls -/

theorem issued_access (a : BusAccess) (between : List Word) {s : State} (hs : s.invariants = true) :
    issued (.access a between) s = performAccess a between s := by
  have hfirst := agentWords_induct invariants_agentClosed .bus ((a.split.map Transaction.word).take 1) s hs
  have hbetween := agentWords_induct invariants_agentClosed .sink between _ hfirst
  have hwords : performedAll .bus (accessWords a).tail
      (performedAll .sink between (performedAll .bus ((accessWords a).take 1) s)) = accessed a between s := by
    rw [accessWords_eq, performedAll_eq_agentWords ⟨by decide, by decide⟩ _ hs,
      performedAll_eq_agentWords ⟨by decide, by decide⟩ _ hfirst, ← List.drop_one,
      performedAll_eq_agentWords ⟨by decide, by decide⟩ _ hbetween, accessed]
  rw [performAccess_eq, ← accessValue_eq_result a between s]
  unfold issued
  dsimp only
  rw [hwords]
  cases accessValue a (halvesRead s (accessed a between s)) <;> rfl

theorem issued_eq_performIssue (x : Issue) {s : State} (hs : s.invariants = true) : issued x s = performIssue s x := by
  cases x with
  | bus w | cpu w | irqsrc w | sink w => exact performed_eq_agentWord ⟨by decide, by decide⟩ w hs
  | access a between => exact issued_access a between hs

theorem issuedAll_eq_performIssues (xs : List Issue) {s : State} (hs : s.invariants = true) :
    issuedAll xs s = performIssues xs s := by
  unfold issuedAll performIssues
  induction xs generalizing s with
  | nil => rfl
  | cons x xs ih =>
    rw [List.foldl_cons, List.foldl_cons, issued_eq_performIssue x hs, ih (performIssue_invariants x hs)]

end Sys2Proof.Machine
end

section
/-! PROOFS. The interrupt registers, the requests to leave Running, and the two host commands of a frame (R401, R402,
R413-R421). -/

namespace Sys2Proof.Machine

open Sys2Proof.Claims (laneOn)

/-! ## IE, IF and IME (R417-R419) -/

/-- The bits of IE and IF that exist (R103). -/
theorem irqMask_getLsbD (n : Nat) : irqMask.getLsbD n = decide (n < 14) := by
  by_cases hn : n < 16
  · interval_cases n <;> rfl
  · rw [BitVec.getLsbD_of_ge _ _ (Nat.not_lt.mp hn), decide_eq_false (by omega)]

/-- A bit's lane, by its byte and by its half (R205). -/
theorem getLsbD_byte_eq_laneOn (be : BitVec 2) {n : Nat} (hn : n < 16) : be.getLsbD (n / 8) = laneOn be n := by
  unfold laneOn
  split
  · rw [Nat.div_eq_of_lt ‹_›]
  · rw [show n / 8 = 1 by omega]

/-- The lane mask holds exactly the enabled lanes' bits (R205). -/
theorem lanes_getLsbD (be : BitVec 2) {n : Nat} (hn : n < 16) : (lanes be).getLsbD n = laneOn be n := by
  have hmerge : merge be 0#16 (BitVec.allOnes 16) = lanes be := by
    rw [merge, BitVec.zero_and, BitVec.allOnes_and, BitVec.zero_or]
  rw [← hmerge, merge_getLsbD _ _ _ _ hn, getLsbD_byte_eq_laneOn be hn, BitVec.getLsbD_allOnes, BitVec.getLsbD_zero]
  simp [hn]

/-- Settles O10: `merge_getLsbD` for IE, and the lane mask bit by bit for IF. -/
theorem interruptRegisterWritesBitByBit : Obligations.InterruptRegisterWritesBitByBit := by
  intro be data s
  refine ⟨⟨_, rfl, rfl, fun n hn => ?_⟩, ⟨_, rfl, rfl, fun n hn => ?_⟩, ?_⟩
  · change (merge be s.irq.ie data &&& irqMask).getLsbD n = _
    rw [BitVec.getLsbD_and, merge_getLsbD _ _ _ _ hn, irqMask_getLsbD, getLsbD_byte_eq_laneOn be hn, Bool.and_comm]
  · change (s.irq.flags &&& ~~~(data &&& lanes be &&& irqMask)).getLsbD n = _
    simp only [BitVec.getLsbD_and, BitVec.getLsbD_not, lanes_getLsbD be hn, irqMask_getLsbD, hn, decide_true,
      Bool.true_and]
    rw [Bool.and_comm (data.getLsbD n), Bool.and_right_comm, Bool.and_comm (laneOn be n), Bool.and_assoc]
  · change Host.Outcome.next (writeIme be data s) = _
    unfold writeIme laneLo
    split_ifs <;> rfl

/-! ## IRQ_REQUEST (R416) -/

theorem setWidth_eq_zero_append (bits : BitVec 14) : bits.setWidth 16 = 0#2 ++ bits :=
  (BitVec.setWidth_eq_append (by decide)).trans rfl

/-- Bits 15:14 of ARG16 are must-be-zero bits of IRQ_REQUEST's row (R308). -/
theorem reservedBitSet_irqRequest {top : BitVec 2} (htop : top ≠ 0) (bits : BitVec 14) :
    reservedBitSet (cmdWord 2 6 0 (top ++ bits)) = true := by
  refine eq_true_of_ne_false fun h => htop ?_
  obtain ⟨-, hdata⟩ := (reservedBitSet_command (.inl (wordClass_cmdWord _ _ _ _))).mp h
  have hmask : (top ++ bits) &&& (3#2 ++ 0#14) = 0#2 ++ 0#14 := by simpa [unusedArgs] using hdata
  rw [BitVec.and_append, BitVec.and_zero, and_pair] at hmask
  exact (BitVec.append_left_inj (0#14)).mp hmask

/-- Settles O12: the word is the encoding; a top bit is a must-be-zero bit; the effect is `State.setFlags`. -/
theorem irqRequestSetsExactlyTheRequestedFlags : Obligations.IrqRequestSetsExactlyTheRequestedFlags := by
  intro bits s
  refine ⟨?_, fun top htop => ?_, _, rfl, rfl, fun n => ?_⟩
  · have h := decodeOfEncodeIsTheInstruction (.irqRequest bits) rfl
    rwa [encode, setWidth_eq_zero_append] at h
  · have hrow : rowInstr (cmdWord 2 6 0 (top ++ bits)) = some (.irqRequest ((top ++ bits).extractLsb' 0 14)) := by
      simp [rowInstr]
    change decode .irqsrc (cmdWord 2 6 0 (top ++ bits)) = _
    rw [decode_of_rowInstr hrow, reservedBitSet_irqRequest htop]
    simp [Instr.port]
  · change (s.setFlags (bits.setWidth 16)).irq.flags.getLsbD n = _
    rw [State.setFlags_getLsbD]
    exact congrArg _ (BitVec.getLsbD_setWidth' (by decide) bits n)

/-! ## Which instructions set a flag (R416, R418, R505, R910) -/

/-- An interrupt flag that is 1 afterwards was 1 before. -/
def FlagsFrom (s t : State) : Prop := ∀ n, t.irq.flags.getLsbD n = true → s.irq.flags.getLsbD n = true

theorem FlagsFrom.of_eq {s t : State} (h : t.irq.flags = s.irq.flags) : FlagsFrom s t := fun _ hn => h ▸ hn

theorem SoundFrame.flagsFrom {s t : State} (h : SoundFrame s t) : FlagsFrom s t := .of_eq (by rw [h])

theorem resetBlock_flagsFrom (s : State) : FlagsFrom s (resetBlock s) := by
  obtain ⟨-, h⟩ | ⟨-, h⟩ := betweenFrames_cases .reset s resetFields <;> rw [resetBlock, h]
  · exact .of_eq rfl
  · exact fun n hn => absurd hn (by simp [resetFields, Irq.reset])

/-- Settles O13: every other instruction keeps the flags or clears some of them. -/
theorem flagsAreSetOnlyByRequestsAndTimers : Obligations.FlagsAreSetOnlyByRequestsAndTimers := by
  intro i s t n hexec hclear hset
  by_contra hother
  have hkeeps : ∃ u, exec i s = .next u ∧ FlagsFrom s u := by
    cases i with
    | irqRequest | evtTimerTick | evtTimerInc | evtTimerOverflow | evtPass | evtTick => simp at hother
    | regWriteIf be data => exact ⟨_, rfl, fun _ => writeReg_flags (r := .iflags)⟩
    | regWriteSoundcntX be data => exact ⟨_, rfl, fun _ => writeReg_flags (r := .soundcntX)⟩
    | regWriteIme be data => exact ⟨_, rfl, fun _ => writeReg_flags (r := .ime)⟩
    | regWriteHaltcnt be data => exact ⟨_, rfl, fun _ => writeReg_flags (r := .haltcnt)⟩
    | reset => exact ⟨_, rfl, resetBlock_flagsFrom s⟩
    | runFrame =>
      refine ⟨_, rfl, .of_eq (congrArg Irq.flags ?_)⟩
      obtain ⟨-, h⟩ | ⟨-, h⟩ := betweenFrames_cases .runFrame s beginFrame
      · rw [runFrame, h, State.refuse_irq]
      · rw [runFrame, h, beginFrame]
    | setSpeed m =>
      refine ⟨_, rfl, .of_eq (congrArg Irq.flags ?_)⟩
      obtain ⟨_, h⟩ | ⟨-, -, h⟩ := setSpeed_cases m s
      · rw [h, State.refuse_irq]
      · rw [h]
    | cpuHalt => exact ⟨_, rfl, .of_eq (congrArg Irq.flags (s.leaveRunning_irq .halted))⟩
    | cpuStop => exact ⟨_, rfl, .of_eq (congrArg Irq.flags (s.leaveRunning_irq .stopped))⟩
    | cpuIntrwait mask =>
      refine ⟨_, rfl, .of_eq ?_⟩
      unfold cpuIntrwait
      split <;> rfl
    | evtFifoDrain f => exact ⟨_, rfl, .of_eq (by rw [fifoDrain_frame])⟩
    | evtApuStep => exact ⟨_, rfl, (apuStep_soundFrame s).flagsFrom⟩
    | evtFsClock => exact ⟨_, rfl, (fsClock_soundFrame s).flagsFrom⟩
    | evtSweepClock => exact ⟨_, rfl, (sweepClock_soundFrame s).flagsFrom⟩
    | evtRingPush =>
      refine ⟨_, rfl, .of_eq ?_⟩
      unfold ringPush
      (repeat' split) <;> rfl
    | _ => exact ⟨_, rfl, .of_eq rfl⟩
  obtain ⟨u, hu, hkept⟩ := hkeeps
  cases hu.symm.trans hexec
  rw [hkept n hset] at hclear
  cases hclear

/-! ## Requests to leave Running (R413-R415, R421) -/

/-- Settles O11: `State.leaveRunning` and CPU_INTRWAIT, and HALTCNT as one of the two requests. -/
theorem powerRequestsLeaveRunningOnly : Obligations.PowerRequestsLeaveRunningOnly := by
  intro mask be data s
  refine ⟨rfl, rfl, ?_, ?_⟩
  · rw [← setWidth_eq_zero_append]
    rfl
  · change Host.Outcome.next (writeHaltcnt be data s) = _
    unfold writeHaltcnt laneHi cpuStop cpuHalt State.leaveRunning
    split_ifs <;> simp_all

/-! ## RUN_FRAME and SET_SPEED (R401, R402) -/

/-- Settles O44: SET_SPEED's word, the two refusals in their order, and the store. -/
theorem setSpeedStoresOrRefuses : Obligations.SetSpeedStoresOrRefuses := by
  intro m s
  refine ⟨decodeOfEncodeIsTheInstruction (.setSpeed m) rfl, fun hframe => ?_, fun hframe hm => ?_,
    fun hframe hm => ?_⟩
  all_goals
    change Host.Outcome.next (setSpeed m s) = _
    rw [setSpeed, betweenFrames, hframe]
  · rfl
  · subst hm
    rfl
  · exact congrArg _ (if_neg hm)

/-- Settles O46: RUN_FRAME is `beginFrame` between frames. -/
theorem runFrameBeginsOneFrame : Obligations.RunFrameBeginsOneFrame := by
  intro s
  refine ⟨fun hframe => ?_, fun hframe => ⟨_, rfl, ?_⟩⟩ 
  · change Host.Outcome.next (runFrame s) = _
    rw [runFrame, betweenFrames, hframe]
    rfl
  · rw [runFrame, betweenFrames, hframe]
    rfl

end Sys2Proof.Machine
end

section
/-! PROOFS. The pass (R410-R412, R420, R435): its first three steps as one update of the scheduler, and what the two
calls of its fourth step can change. -/

namespace Sys2Proof.Machine

open Sys2Proof.Claims (wokenAndSignalled stepFour issuedAll)

/-! ## The wake rule and the interrupt signal (R410-R412) -/

theorem wakes_iff (sc : Sched) (pend : Half) :
    wakes sc pend = true ↔ pend ≠ 0 ∧ (sc.waitActive = false ∨ pend &&& sc.waitMask ≠ 0) := by
  simp [wakes]

/-- The interrupt level (R412). -/
theorem irqLevel_eq (q : Irq) : irqLevel q.ime (pending q) = (q.ime && decide (q.ie &&& q.flags ≠ 0)) :=
  congrArg (q.ime && ·) (Bool.eq_iff_iff.mpr (by rw [bne_iff_ne, decide_eq_true_iff, pending]))

/-- Steps 1 to 3 of a pass in the statement's words. -/
theorem wokenAndSignalled_eq (s : State) :
    wokenAndSignalled s = (s.wake (pending s.irq)).signal (pending s.irq) := by
  have hedges : ∀ level : Bool, s.sched.irqEdges + (if level && !s.sched.irqLine then 1 else 0) =
      if level && !s.sched.irqLine then s.sched.irqEdges + 1 else s.sched.irqEdges := by
    intro level
    split <;> rfl
  unfold wokenAndSignalled State.signal
  dsimp only
  rw [State.wake_irq, irqLevel_eq, hedges]
  obtain ⟨hw, hnot⟩ | ⟨hw, hhalt, hyes⟩ := State.wake_cases s (pending s.irq)
  · rw [hw]
    have : ¬ (s.sched.halt ≠ .running ∧ s.irq.ie &&& s.irq.flags ≠ 0 ∧
        (s.sched.waitActive = false ∨ s.irq.ie &&& s.irq.flags &&& s.sched.waitMask ≠ 0)) := by
      rintro ⟨hhalt, hyes⟩
      have hyes : wakes s.sched (pending s.irq) = true := (wakes_iff _ _).mpr hyes
      simp [hhalt, hyes] at hnot
    rw [decide_eq_false this]
    simp
  · rw [hw, decide_eq_true ⟨hhalt, (wakes_iff _ _).mp hyes⟩]
    simp

/-- PASS, in the statement's words for its first three steps (R420). -/
theorem pass_eq (s : State) :
    pass s = if (wokenAndSignalled s).sched.halt = .stopped then (wokenAndSignalled s).passResult 1 false
      else passStep4 (wokenAndSignalled s) := by
  rw [wokenAndSignalled_eq, pass]

/-- A wake comes before the signal: the pass is that of the Running CPU it gives (R411). -/
theorem pass_of_wakes {s u : State} (hhalt : s.sched.halt ≠ .running) (h : wakes s.sched (pending s.irq) = true)
    (hu : u = { s with sched := { s.sched with halt := .running, waitActive := false } }) : pass s = pass u := by
  have hwake : s.wake (pending s.irq) = u := hu ▸ if_pos ⟨hhalt, h⟩
  have hirq : u.irq = s.irq := by rw [hu]
  have hrunning : u.sched.halt = .running := by rw [hu]
  rw [pass_eq, pass_eq, wokenAndSignalled_eq, wokenAndSignalled_eq, hwake, hirq, State.wake_of_running hrunning]

/-! ## Step 4 (R420) -/

theorem nextAnswer_eq {α : Type} (answers : List α) (rest : α) :
    nextAnswer answers rest = (answers.headD rest, answers.tail) := by cases answers <;> rfl

theorem dmaStep_of_none {s : State} (h : s.env.dma.headD s.env.dmaRest = none) :
    dmaStep s = (0, { s with env := { s.env with dma := s.env.dma.tail } }) := by
  unfold dmaStep
  rw [nextAnswer_eq, h]

theorem dmaStep_of_some {s : State} {c : Call} (h : s.env.dma.headD s.env.dmaRest = some c) :
    dmaStep s = (c.cost, performIssues c.issues { s with env := { s.env with dma := s.env.dma.tail } }) := by
  unfold dmaStep
  rw [nextAnswer_eq, h]

theorem cpuStep_eq (s : State) :
    cpuStep s = ((s.env.cpu.headD s.env.cpuRest).cost,
      performIssues (s.env.cpu.headD s.env.cpuRest).issues { s with env := { s.env with cpu := s.env.cpu.tail } }) := by
  unfold cpuStep
  rw [nextAnswer_eq]

/-- Step 4b and the charge, from the state `s` after a DMA unit of cost `d`, in the statement's words. -/
def stepFourB (d : Nat) (s : State) : State :=
  let cpu := s.env.cpu.headD s.env.cpuRest
  if s.sched.halt = .running then
    let s := issuedAll cpu.issues { s with env := { s.env with cpu := s.env.cpu.tail } }
    { s with seq := { s.seq with n := max 1 (d + cpu.cost), fan := true } }
  else { s with seq := { s.seq with n := max 1 d, fan := true } }

theorem stepFour_of_none {s : State} (h : s.env.dma.headD s.env.dmaRest = none) :
    stepFour s = stepFourB 0 { s with env := { s.env with dma := s.env.dma.tail } } := by
  unfold stepFour
  rw [h]
  rfl

theorem stepFour_of_some {s : State} {c : Call} (h : s.env.dma.headD s.env.dmaRest = some c) :
    stepFour s = stepFourB c.cost (issuedAll c.issues { s with env := { s.env with dma := s.env.dma.tail } }) := by
  unfold stepFour
  rw [h]
  rfl

theorem passStep4_of_dmaStep {s t : State} {d : Nat} (h : dmaStep s = (d, t)) (ht : t.invariants = true) :
    passStep4 s = stepFourB d t := by
  unfold passStep4 stepFourB
  rw [h]
  dsimp only
  rw [cpuStep_eq, issuedAll_eq_performIssues _ (by exact ht)]
  rfl

/-- Step 4 in the statement's words: in a state of the invariants the words in the calls act as anywhere else. -/
theorem passStep4_eq_stepFour {s : State} (hs : s.invariants = true) : passStep4 s = stepFour s := by
  cases h : s.env.dma.headD s.env.dmaRest with
  | none => rw [stepFour_of_none h, passStep4_of_dmaStep (dmaStep_of_none h) hs]
  | some c =>
    rw [stepFour_of_some h, issuedAll_eq_performIssues c.issues (by exact hs)]
    exact passStep4_of_dmaStep (dmaStep_of_some h) (performIssues_induct invariants_agentClosed c.issues _ hs)

/-- What a pass cannot touch after its first three steps: what no word in a call touches, but for the oracles' answers
and PASS's own result. -/
def PassFrame (s t : State) : Prop :=
  ClockFrame s t ∧ AgentFrame { s with env := t.env, seq := { s.seq with n := t.seq.n, fan := t.seq.fan } } t

theorem PassFrame.trans {s t u : State} (h : PassFrame s t) (k : PassFrame t u) : PassFrame s u := by
  obtain ⟨hclock, h1, h2, h3, hseq, h5, h6, -, h8, h9, h10⟩ := h
  have hseq := congrArg (fun q : Seq => { q with n := u.seq.n, fan := u.seq.fan }) hseq
  have hagent : AgentFrame { s with env := u.env, seq := { s.seq with n := u.seq.n, fan := u.seq.fan } }
      { t with env := u.env, seq := { t.seq with n := u.seq.n, fan := u.seq.fan } } :=
    ⟨h1, h2, h3, hseq, h5, h6, rfl, h8, h9, h10⟩
  exact ⟨hclock.trans k.1, hagent.trans k.2⟩

theorem performIssues_passFrame (xs : List Issue) (s : State) : PassFrame s (performIssues xs s) := by
  obtain ⟨h1, h2, h3, hseq, h5, h6, -, h8, h9, h10⟩ := performIssues_frame xs s
  exact ⟨performIssues_clockFrame xs s, h1, h2, h3, by rw [hseq], h5, h6, rfl, h8, h9, h10⟩

/-- A change of the oracles' answers, and PASS's result. -/
theorem env_passFrame (s : State) (e : Env) : PassFrame s { s with env := e } := ⟨.refl s, .refl _⟩

theorem passResult_passFrame (s : State) (n : Nat) (fan : Bool) : PassFrame s (s.passResult n fan) :=
  ⟨.refl s, .refl _⟩

theorem dmaStep_passFrame (s : State) : PassFrame s (dmaStep s).2 := by
  obtain ⟨e, h⟩ | ⟨e, c, h⟩ := dmaStep_cases s <;> rw [h]
  · exact env_passFrame s e
  · exact (env_passFrame s e).trans (performIssues_passFrame _ _)

theorem cpuStep_passFrame (s : State) : PassFrame s (cpuStep s).2 :=
  (env_passFrame s _).trans (performIssues_passFrame _ _)

/-- Step 4: the frame, and at least one tick, fanned out (R420). -/
theorem passStep4_passFrame (s : State) : PassFrame s (passStep4 s) := by
  unfold passStep4
  dsimp only
  split
  · exact ((dmaStep_passFrame s).trans (cpuStep_passFrame _)).trans (passResult_passFrame _ _ _)
  · exact (dmaStep_passFrame s).trans (passResult_passFrame _ _ _)

theorem passStep4_result (s : State) : 1 ≤ (passStep4 s).seq.n ∧ (passStep4 s).seq.fan = true := by
  unfold passStep4
  dsimp only
  split <;> exact ⟨Nat.le_max_left _ _, rfl⟩

/-- Every pass charges at least one tick; only a Stopped CPU's is not fanned out (R420). -/
theorem pass_result (s : State) : 1 ≤ (pass s).seq.n ∧ (s.sched.halt ≠ .stopped → (pass s).seq.fan = true) := by
  rw [pass_eq]
  split
  · rename_i hstopped
    refine ⟨Nat.le_refl 1, fun hhalt => absurd hstopped ?_⟩
    unfold wokenAndSignalled
    dsimp only
    split
    · decide
    · exact hhalt
  · obtain ⟨hn, hfan⟩ := passStep4_result (wokenAndSignalled s)
    exact ⟨hn, fun _ => hfan⟩

/-- A Stopped CPU with no flag pending charges one tick, which is not fanned out, and the level becomes 0 (R420). -/
theorem pass_of_asleep {s : State} (hhalt : s.sched.halt = .stopped) (hpend : s.irq.ie &&& s.irq.flags = 0) :
    pass s = { s with sched := { s.sched with irqLine := false }, seq := { s.seq with n := 1, fan := false } } := by
  have hstart : wokenAndSignalled s = { s with sched := { s.sched with irqLine := false } } := by
    simp [wokenAndSignalled, hpend]
  rw [pass_eq, hstart, if_pos hhalt]
  rfl

theorem pass_passFrame (s : State) : PassFrame (wokenAndSignalled s) (pass s) := by
  rw [pass_eq]
  split
  · exact passResult_passFrame _ _ _
  · exact passStep4_passFrame _

/-- The scheduler after a pass: the level and its rising edges are those of the signal (R412). -/
theorem pass_sched (s : State) :
    (pass s).sched = { (wokenAndSignalled s).sched with
      halt := (pass s).sched.halt, waitActive := (pass s).sched.waitActive, waitMask := (pass s).sched.waitMask } :=
  (pass_passFrame s).1.1

theorem pass_irqLine (s : State) :
    (pass s).sched.irqLine = (s.irq.ime && decide (s.irq.ie &&& s.irq.flags ≠ 0)) := by
  rw [pass_sched]
  rfl

theorem pass_irqEdges (s : State) :
    (pass s).sched.irqEdges =
      s.sched.irqEdges + (if (pass s).sched.irqLine = true ∧ s.sched.irqLine = false then 1 else 0) := by
  rw [pass_irqLine, pass_sched]
  simp [wokenAndSignalled]

/-- A pass does not move RUN_FRAME's place, nor what a frame counts (R401, R420). -/
theorem pass_place (s : State) :
    (pass s).sched.speed = s.sched.speed ∧ (pass s).sched.inFrame = s.sched.inFrame ∧
    (pass s).sched.i = s.sched.i ∧ (pass s).sched.carry = s.sched.carry ∧
    (pass s).sched.didRender = s.sched.didRender ∧
    (pass s).seq.phase = s.seq.phase ∧ (pass s).seq.budget = s.seq.budget ∧ (pass s).seq.k = s.seq.k := by
  obtain ⟨-, -, -, -, hseq, -⟩ := pass_passFrame s
  rw [pass_sched, hseq]
  exact ⟨rfl, rfl, rfl, rfl, rfl, rfl, rfl, rfl⟩

theorem pass_kept (s : State) :
    (pass s).resampler = s.resampler ∧ (pass s).faults = s.faults ∧ (pass s).params = s.params ∧
    (pass s).events = s.events ∧ (pass s).args = s.args ∧ (pass s).tornDown = s.tornDown := by
  obtain ⟨-, hresampler, hfaults, hparams, -, hevents, hargs, -, htorn, -⟩ := pass_passFrame s
  exact ⟨hresampler, hfaults, hparams, hevents, hargs, htorn⟩

theorem pass_clocks (s : State) :
    ((pass s).apu.phase = s.apu.phase ∧ (pass s).apu.fsCounter = s.apu.fsCounter ∧
      (pass s).apu.fsStep = s.apu.fsStep ∧ (pass s).apu.audioWait = s.apu.audioWait) ∧
    ((pass s).fifoA.latch = s.fifoA.latch ∧ (pass s).fifoA.requests = s.fifoA.requests) ∧
    (pass s).fifoB.latch = s.fifoB.latch ∧ (pass s).fifoB.requests = s.fifoB.requests := by
  obtain ⟨⟨-, hapu, hA, hB, -⟩, -⟩ := pass_passFrame s
  exact ⟨hapu, hA, hB⟩

/-- The sink's words in the calls only take frames (R822). -/
theorem pass_ring (s : State) :
    (pass s).ring.dropped = s.ring.dropped ∧ ∃ taken, s.ring.rb = taken ++ (pass s).ring.rb := by
  obtain ⟨-, -, -, -, -, -, -, -, -, hring⟩ := pass_passFrame s
  exact hring

theorem pass_overflows (s : State) (m : Fin 4) : ((pass s).timer m).overflows = (s.timer m).overflows := by
  obtain ⟨⟨-, -, -, -, h⟩, -⟩ := pass_passFrame s
  exact h m

/-- What only a tick, the sink or the host changes is as before a pass (R420). -/
theorem pass_eq_frame (s : State) :
    pass s = { pass s with
      sched := { (pass s).sched with
        speed := s.sched.speed, inFrame := s.sched.inFrame, i := s.sched.i, carry := s.sched.carry
        didRender := s.sched.didRender }
      apu := { (pass s).apu with
        phase := s.apu.phase, fsCounter := s.apu.fsCounter, fsStep := s.apu.fsStep, audioWait := s.apu.audioWait }
      fifoA := { (pass s).fifoA with latch := s.fifoA.latch, requests := s.fifoA.requests }
      fifoB := { (pass s).fifoB with latch := s.fifoB.latch, requests := s.fifoB.requests }
      resampler := s.resampler, faults := s.faults, params := s.params
      seq := { (pass s).seq with phase := s.seq.phase, budget := s.seq.budget, k := s.seq.k }
      events := s.events, args := s.args, tornDown := s.tornDown } := by
  obtain ⟨hspeed, hframe, hi, hcarry, hrender, hphase, hbudget, hk⟩ := pass_place s
  obtain ⟨hresampler, hfaults, hparams, hevents, hargs, htorn⟩ := pass_kept s
  obtain ⟨⟨happhase, hcounter, hstep, hwait⟩, ⟨hlatchA, hreqA⟩, hlatchB, hreqB⟩ := pass_clocks s
  generalize pass s = t at *
  rw [← hspeed, ← hframe, ← hi, ← hcarry, ← hrender, ← hphase, ← hbudget, ← hk, ← hresampler, ← hfaults, ← hparams,
    ← hevents, ← hargs, ← htorn, ← happhase, ← hcounter, ← hstep, ← hwait, ← hlatchA, ← hreqA, ← hlatchB, ← hreqB]

/-! ## The obligations -/

/-- Settles O49: `pass_of_wakes`, `pass_eq` with `passStep4_eq_stepFour`, and the frame of step 4. -/
theorem passWakesSignalsAndCharges : Obligations.PassWakesSignalsAndCharges := by
  intro s
  refine ⟨fun hpend hhalt hwait => ?_, fun hstopped => ?_, fun hstopped hs => ?_, pass s, rfl, ?_⟩
  · exact congrArg Host.Outcome.next (pass_of_wakes hhalt ((wakes_iff _ _).mpr ⟨hpend, hwait⟩) rfl)
  · refine congrArg Host.Outcome.next ?_
    rw [pass_eq, if_pos hstopped]
    rfl
  · refine congrArg Host.Outcome.next ?_
    rw [pass_eq, if_neg hstopped]
    exact passStep4_eq_stepFour hs
  · obtain ⟨hn, hfan⟩ := pass_result s
    exact ⟨pass_irqLine s, pass_irqEdges s, hn, pass_of_asleep, hfan, pass_eq_frame s, pass_ring s, pass_overflows s⟩

/-! ## Waiting (R435) -/

/-- The CPU is Halted in an active wait. -/
def Waits (s : State) : Prop := s.sched.halt = .halted ∧ s.sched.waitActive = true

theorem Waits.not_running {s : State} (h : Waits s) : s.sched.halt ≠ .running := by
  rw [h.1]
  decide

theorem Waits.leaveRunning {s : State} (h : Waits s) (x : HaltState) : Waits (s.leaveRunning x) := by
  rw [State.leaveRunning_of_not_running h.not_running]
  exact h

/-- No word in a call wakes a waiting CPU, or ends its wait. -/
theorem waits_agentClosed : AgentClosed Waits where
  write be data r s h := by
    cases r with
    | soundcntX => simp only [writeReg, writeSoundcntX]; (repeat' split) <;> exact h
    | ime => simp only [writeReg, writeIme]; split <;> exact h
    | haltcnt =>
      simp only [writeReg, writeHaltcnt]
      split_ifs
      · exact h.leaveRunning .stopped
      · exact h.leaveRunning .halted
      · exact h
    | _ => exact h
  halt s h := h.leaveRunning .halted
  stop s h := h.leaveRunning .stopped
  wait mask s h := by
    unfold cpuIntrwait
    rw [if_neg h.not_running]
    exact h
  request _ _ h := h
  pop _ _ _ h := h
  emit _ _ h := h

/-- The DMA engine leaves the CPU waiting, and the CPU's answers as they were (R435, R941). -/
theorem dmaStep_waits {s : State} (h : Waits s) : Waits (dmaStep s).2 ∧ (dmaStep s).2.env.cpu = s.env.cpu := by
  cases hd : s.env.dma.headD s.env.dmaRest with
  | none => rw [dmaStep_of_none hd]; exact ⟨h, rfl⟩
  | some c =>
    rw [dmaStep_of_some hd]
    have hkept :=
      performIssues_induct waits_agentClosed c.issues { s with env := { s.env with dma := s.env.dma.tail } } h
    obtain ⟨-, -, -, -, -, -, henv, -⟩ :=
      performIssues_frame c.issues { s with env := { s.env with dma := s.env.dma.tail } }
    exact ⟨hkept, (congrArg Env.cpu henv :)⟩

/-- Settles O50: the wake rule does not hold, so the CPU waits when the DMA engine is asked, and after it. -/
theorem interruptWaitHoldsThroughAPass : Obligations.InterruptWaitHoldsThroughAPass := by
  intro s hhalt hwait hmask
  have hasleep : wakes s.sched (pending s.irq) = false := by
    refine eq_false_of_ne_true fun h => ?_
    obtain ⟨-, hno | hmet⟩ := (wakes_iff _ _).mp h
    · rw [hwait] at hno
      cases hno
    · exact hmet hmask
  have hwaits : Waits (wokenAndSignalled s) := by
    rw [wokenAndSignalled_eq]
    obtain ⟨hw, -⟩ | ⟨-, -, hyes⟩ := State.wake_cases s (pending s.irq)
    · rw [hw]
      exact ⟨hhalt, hwait⟩
    · rw [hasleep] at hyes
      cases hyes
  obtain ⟨hdma, hcpu⟩ := dmaStep_waits hwaits
  have hpass : pass s =
      (dmaStep (wokenAndSignalled s)).2.passResult (max 1 (dmaStep (wokenAndSignalled s)).1) true := by
    rw [pass_eq, if_neg (by rw [hwaits.1]; decide), passStep4, if_neg hdma.not_running]
  exact ⟨pass s, rfl, by rw [hpass]; exact hdma.1, by rw [hpass]; exact hdma.2, by rw [hpass]; exact hcpu⟩

end Sys2Proof.Machine
end

section
/-! PROOFS. The tick (R430, R431, R436): the timers' part, the video's, the channels' and the sample's, each by what it
can change. -/

namespace Sys2Proof.Machine

open Sys2Proof.Claims (performed videoIssued speedless)

/-! ## Words inside Video.Tick (R942) -/

/-- What one issue of the video stepper does: it requests interrupts, takes frames, or is refused. -/
def IsVideoOp (op : State → State) : Prop :=
  (∃ bits, op = irqRequest bits) ∨ (∃ pad count, op = ringPop pad count) ∨ ∃ o, op = fun s => s.emit o

/-- The one row of the IRQSRC port is IRQ_REQUEST (R308). -/
theorem eq_irqRequest_of_port_irqsrc {i : Instr} (h : i.port = .irqsrc) : ∃ bits, i = .irqRequest bits := by
  cases i with
  | irqRequest bits => exact ⟨bits, rfl⟩
  | _ => cases h

theorem agentWord_irqsrc_isVideoOp (w : Word) : IsVideoOp (agentWord .irqsrc w) := by
  unfold agentWord
  cases hdec : decode .irqsrc w with
  | refused e => exact .inr (.inr ⟨_, rfl⟩)
  | instr i =>
    obtain ⟨-, hport, -⟩ := decode_instr hdec
    obtain ⟨bits, rfl⟩ := eq_irqRequest_of_port_irqsrc hport
    exact .inl ⟨bits, rfl⟩

theorem agentWord_sink_isVideoOp (w : Word) : IsVideoOp (agentWord .sink w) := by
  obtain ⟨pad, count, h⟩ | ⟨e, h⟩ := agentWord_sink_cases w
  · exact .inr (.inl ⟨pad, count, funext h⟩)
  · exact .inr (.inr ⟨_, funext h⟩)

theorem videoIssue_isVideoOp (x : VideoIssue) : IsVideoOp fun s => performIssue s x.toIssue := by
  cases x with
  | irqsrc w => exact agentWord_irqsrc_isVideoOp w
  | sink w => exact agentWord_sink_isVideoOp w

/-- Such an issue acts in every state as it does anywhere else: it reads no register. -/
theorem performed_irqsrc (w : Word) (s : State) : performed .irqsrc w s = agentWord .irqsrc w s := by
  unfold performed agentWord
  cases hdec : decode .irqsrc w with
  | refused e => rfl
  | instr i =>
    obtain ⟨-, hport, -⟩ := decode_instr hdec
    obtain ⟨bits, rfl⟩ := eq_irqRequest_of_port_irqsrc hport
    rfl

theorem performed_sink (w : Word) (s : State) : performed .sink w s = agentWord .sink w s := by
  unfold performed agentWord
  cases hdec : decode .sink w with
  | refused e => rfl
  | instr i =>
    obtain ⟨-, hport, -⟩ := decode_instr hdec
    obtain ⟨pad, count, rfl⟩ := eq_ringPop_of_port_sink hport
    rfl

theorem videoIssued_eq_performIssues (xs : List VideoIssue) (s : State) :
    videoIssued xs s = performIssues (xs.map VideoIssue.toIssue) s := by
  unfold videoIssued performIssues
  induction xs generalizing s with
  | nil => rfl
  | cons x xs ih =>
    rw [List.map_cons, List.foldl_cons, List.foldl_cons, ih]
    cases x with
    | irqsrc w => exact congrArg (List.foldl performIssue · _) (performed_irqsrc w s)
    | sink w => exact congrArg (List.foldl performIssue · _) (performed_sink w s)

/-- Everything the video stepper and the sink can touch in such a call: interrupt flags, which they only set, the ring
and the record of what was sent. -/
def VideoFrame (s t : State) : Prop :=
  t = { s with irq := { s.irq with flags := t.irq.flags }, ring := t.ring, out := t.out } ∧
  ∀ n, s.irq.flags.getLsbD n = true → t.irq.flags.getLsbD n = true

theorem VideoFrame.refl (s : State) : VideoFrame s s := ⟨rfl, fun _ h => h⟩

theorem VideoFrame.trans {s t u : State} (h : VideoFrame s t) (k : VideoFrame t u) : VideoFrame s u := by
  refine ⟨?_, fun n hn => k.2 n (h.2 n hn)⟩
  rw [k.1, h.1]

theorem IsVideoOp.frame {op : State → State} (h : IsVideoOp op) (s : State) : VideoFrame s (op s) := by
  obtain ⟨bits, rfl⟩ | ⟨pad, count, rfl⟩ | ⟨o, rfl⟩ := h
  · exact ⟨rfl, fun n hn => by rw [irqRequest, State.setFlags_getLsbD, hn, Bool.true_or]⟩
  · exact ⟨rfl, fun _ hn => hn⟩
  · exact ⟨rfl, fun _ hn => hn⟩

theorem videoIssued_frame (xs : List VideoIssue) (s : State) : VideoFrame s (videoIssued xs s) := by
  rw [videoIssued_eq_performIssues]
  unfold performIssues
  induction xs generalizing s with
  | nil => exact .refl s
  | cons x xs ih => exact ((videoIssue_isVideoOp x).frame s).trans (ih _)

/-! ## The four parts of a tick (R430) -/

/-- What a tick shows: a frame end in the last sub-frame, in the statement's words (R431). -/
def shows (frameEnd : Bool) (sc : Sched) : Bool :=
  frameEnd && decide (((sc.i / 280896 : Nat) : Int) = (sc.speed.toNat : Int) - 1)

/-- The state after a call of Video.Tick, in the statement's words. -/
def videoCalled (s : State) : State :=
  videoIssued (s.env.video.headD s.env.videoRest).issues { s with env := { s.env with video := s.env.video.tail } }

theorem videoTick_eq (s : State) :
    videoTick s = ((s.env.video.headD s.env.videoRest).frameEnd, videoCalled s) := by
  unfold videoTick videoCalled
  rw [nextAnswer_eq, videoIssued_eq_performIssues]

theorem shows_eq (frameEnd : Bool) (sc : Sched) :
    (frameEnd && sc.i / Config.frameCycles + 1 == sc.speed.toNat) = shows frameEnd sc := by
  unfold shows Config.frameCycles
  refine congrArg (frameEnd && ·) (Bool.eq_iff_iff.mpr ?_)
  rw [beq_iff_eq, decide_eq_true_iff]
  omega

/-- Video.Render is called and did_render set, or neither (R431). -/
def State.showing (s : State) (shown : Bool) : State :=
  { s with
    sched := { s.sched with didRender := s.sched.didRender || shown }
    out := if shown then .render :: s.out else s.out }

/-- The video part of a tick: the call, and then the frame is rendered or not (R431). -/
theorem tickVideo_eq (s : State) :
    tickVideo s =
      (videoCalled s).showing (shows (s.env.video.headD s.env.videoRest).frameEnd (videoCalled s).sched) := by
  unfold tickVideo
  rw [videoTick_eq]
  dsimp only
  rw [shows_eq]
  unfold State.showing
  cases shows (s.env.video.headD s.env.videoRest).frameEnd (videoCalled s).sched
  · simp
  · simp [State.emit]

/-- The channel part touches the channels and their clocks; the phase counts ticks modulo 4. -/
theorem tickApu_eq (s : State) :
    tickApu s = { s with
      apu := { s.apu with
        phase := s.apu.phase + 1
        fsCounter := (tickApu s).apu.fsCounter, fsStep := (tickApu s).apu.fsStep }
      ch1 := (tickApu s).ch1, sweep := (tickApu s).sweep, ch2 := (tickApu s).ch2
      wave := (tickApu s).wave, noise := (tickApu s).noise } := by
  unfold tickApu
  split
  · rename_i hphase
    rw [hphase]
    dsimp only
    split
    · exact apuStep_soundFrame { s with apu := { s.apu with phase := 0 } }
    · rfl
  · rfl

/-- The channels after the channel part are those of APU_STEP on every 4th tick while master_en is 1. -/
theorem tickApu_sameSound {s x : State} (h : SameSound s x) (hphase : x.apu.phase = s.apu.phase)
    (hmaster : x.apu.masterEn = s.apu.masterEn) :
    if s.apu.phase = 3 ∧ s.apu.masterEn = true then SameSound (apuStep s) (tickApu x) else SameSound s (tickApu x) := by
  unfold tickApu
  dsimp only
  rw [hphase, hmaster]
  by_cases h3 : s.apu.phase = 3
  · by_cases hm : s.apu.masterEn = true
    · rw [if_pos ⟨h3, hm⟩, if_pos h3, if_pos hm]
      exact apuStep_sameSound h
    · rw [if_neg fun hc => hm hc.2, if_pos h3, if_neg hm]
      exact h
  · rw [if_neg fun hc => h3 hc.1, if_neg h3]
    exact h

/-- The audio part touches the countdown, the resampler, its operands and the waiting events. -/
theorem tickAudio_eq (s : State) :
    tickAudio s = { s with
      apu := { s.apu with audioWait := (tickAudio s).apu.audioWait }
      resampler := (tickAudio s).resampler, events := (tickAudio s).events
      args := { s.args with mixL := (tickAudio s).args.mixL, mixR := (tickAudio s).args.mixR } } := by
  unfold tickAudio
  split <;> rfl

/-- At audio_wait 0 it is the MIX of the channels and latches it leaves, and the countdown starts again. -/
theorem tickAudio_mixes {s : State} (h : s.apu.audioWait = 0) :
    (tickAudio s).apu.audioWait = 511 ∧
    mix { tickAudio s with resampler := s.resampler, events := s.events, args := s.args } = tickAudio s := by
  unfold tickAudio
  rw [if_pos h]
  exact ⟨rfl, rfl⟩

theorem tickAudio_waits {s : State} (h : s.apu.audioWait ≠ 0) :
    (tickAudio s).apu.audioWait = s.apu.audioWait - 1 ∧ (tickAudio s).resampler = s.resampler ∧
    (tickAudio s).events = s.events ∧ (tickAudio s).args = s.args := by
  unfold tickAudio
  rw [if_neg h]
  exact ⟨rfl, rfl, rfl, rfl⟩

/-! ## The tick -/

theorem timerTick_frame (s : State) : TimerFrame s (timerTick s) :=
  timerTick_induct (TimerFrame.closed s) s (.refl s)

/-- The state of a tick after its timers and its call of Video.Tick. -/
def tickCalled (s : State) : State := videoCalled (timerTick s)

/-- The timers and the call keep everything but what these two can touch, and take one answer (R430). -/
theorem tickCalled_frame (s : State) :
    tickCalled s = { s with
      irq := { s.irq with flags := (tickCalled s).irq.flags }, timers := (tickCalled s).timers
      fifoA := (tickCalled s).fifoA, fifoB := (tickCalled s).fifoB, ring := (tickCalled s).ring
      env := { s.env with video := s.env.video.tail }, out := (tickCalled s).out } := by
  have htimers := timerTick_frame s
  obtain ⟨hvideo, -⟩ := videoIssued_frame ((timerTick s).env.video.headD (timerTick s).env.videoRest).issues
    { timerTick s with env := { (timerTick s).env with video := (timerTick s).env.video.tail } }
  change tickCalled s = _ at hvideo
  generalize tickCalled s = v at *
  generalize timerTick s = u at *
  rw [hvideo, htimers]

theorem tickCalled_flags (s : State) (n : Nat) (h : s.irq.flags.getLsbD n = true) :
    (tickCalled s).irq.flags.getLsbD n = true :=
  (videoIssued_frame _ _).2 n (timerTick_induct (flagsKept_closed s n) s id h)

theorem timerTick_env (s : State) : (timerTick s).env = s.env := by rw [timerTick_frame s]

theorem tickVideo_timerTick (s : State) :
    tickVideo (timerTick s) =
      (tickCalled s).showing (shows (s.env.video.headD s.env.videoRest).frameEnd s.sched) := by
  have hsched : (tickCalled s).sched = s.sched := by rw [tickCalled_frame]
  rw [tickVideo_eq, timerTick_env, ← tickCalled, hsched]

/-- The channel part and the audio part together. -/
theorem tickAudio_tickApu_eq (s : State) :
    tickAudio (tickApu s) = { s with
      apu := { s.apu with
        phase := s.apu.phase + 1, audioWait := (tickAudio (tickApu s)).apu.audioWait
        fsCounter := (tickAudio (tickApu s)).apu.fsCounter, fsStep := (tickAudio (tickApu s)).apu.fsStep }
      ch1 := (tickAudio (tickApu s)).ch1, sweep := (tickAudio (tickApu s)).sweep
      ch2 := (tickAudio (tickApu s)).ch2, wave := (tickAudio (tickApu s)).wave
      noise := (tickAudio (tickApu s)).noise, resampler := (tickAudio (tickApu s)).resampler
      events := (tickAudio (tickApu s)).events
      args := { s.args with
        mixL := (tickAudio (tickApu s)).args.mixL, mixR := (tickAudio (tickApu s)).args.mixR } } := by
  have haudio := tickAudio_eq (tickApu s)
  have hchannels := tickApu_eq s
  generalize tickAudio (tickApu s) = t at *
  generalize tickApu s = y at *
  rw [haudio, hchannels]

/-- What a tick changes after the call of Video.Tick: what is shown, the channels with their clocks, and the sample. -/
theorem tick_frame (s : State) :
    tick s = { tickCalled s with
      sched := { s.sched with
        didRender := s.sched.didRender || shows (s.env.video.headD s.env.videoRest).frameEnd s.sched }
      out := if shows (s.env.video.headD s.env.videoRest).frameEnd s.sched then .render :: (tickCalled s).out
        else (tickCalled s).out
      apu := { s.apu with
        phase := s.apu.phase + 1, audioWait := (tick s).apu.audioWait
        fsCounter := (tick s).apu.fsCounter, fsStep := (tick s).apu.fsStep }
      ch1 := (tick s).ch1, sweep := (tick s).sweep, ch2 := (tick s).ch2, wave := (tick s).wave, noise := (tick s).noise
      resampler := (tick s).resampler, events := (tick s).events
      args := { s.args with mixL := (tick s).args.mixL, mixR := (tick s).args.mixR } } := by
  have hcalled := tickCalled_frame s
  have ht := tickAudio_tickApu_eq (tickVideo (timerTick s))
  rw [show tickAudio (tickApu (tickVideo (timerTick s))) = tick s from rfl, tickVideo_timerTick] at ht
  generalize tick s = t at *
  generalize tickCalled s = c at *
  rw [ht, hcalled]
  rfl

/-- No flag is cleared by a tick. -/
theorem tick_flags (s : State) (n : Nat) (h : s.irq.flags.getLsbD n = true) : (tick s).irq.flags.getLsbD n = true := by
  rw [tick_frame]
  exact tickCalled_flags s n h

theorem tickAudio_sameSound (s : State) : SameSound s (tickAudio s) := by
  rw [tickAudio_eq]
  exact ⟨⟨rfl, rfl⟩, rfl, rfl, rfl, rfl, rfl⟩

/-- Until its channel part a tick keeps the channels and their clocks, and what the sample starts from. -/
theorem tickVideo_timerTick_kept (s : State) :
    let x := tickVideo (timerTick s)
    SameSound s x ∧ x.apu = s.apu ∧ x.resampler = s.resampler ∧ x.events = s.events ∧ x.args = s.args := by
  intro x
  have hx : x = _ := tickVideo_timerTick s
  rw [hx, tickCalled_frame]
  exact ⟨⟨⟨rfl, rfl⟩, rfl, rfl, rfl, rfl, rfl⟩, rfl, rfl, rfl, rfl⟩

/-- The channels after a tick are those of APU_STEP on every 4th tick while master_en is 1, else as they were. -/
theorem tick_sameSound (s : State) :
    if s.apu.phase = 3 ∧ s.apu.masterEn = true then SameSound (apuStep s) (tick s) else SameSound s (tick s) := by
  obtain ⟨hsound, hapu, -⟩ := tickVideo_timerTick_kept s
  have h := tickApu_sameSound hsound (congrArg Apu.phase hapu) (congrArg Apu.masterEn hapu)
  split at h
  · rw [if_pos ‹_›]
    exact h.trans (tickAudio_sameSound _)
  · rw [if_neg ‹_›]
    exact h.trans (tickAudio_sameSound _)

/-- What the audio part begins with: the countdown, the resampler, its operands and the waiting events. -/
theorem tickApu_kept (s : State) :
    let y := tickApu (tickVideo (timerTick s))
    y.apu.audioWait = s.apu.audioWait ∧ y.resampler = s.resampler ∧ y.events = s.events ∧ y.args = s.args := by
  intro y
  obtain ⟨-, hapu, hresampler, hevents, hargs⟩ := tickVideo_timerTick_kept s
  have hy : y = _ := tickApu_eq (tickVideo (timerTick s))
  rw [hy]
  exact ⟨(congrArg Apu.audioWait hapu :), hresampler, hevents, hargs⟩

/-- Settles O51: the parts of a tick one after the other, each with its frame. -/
theorem tickStepsChannelsAndMixesOnTime : Obligations.TickStepsChannelsAndMixesOnTime := by
  intro s
  refine ⟨tick s, timerTick s, rfl, rfl, ?_⟩
  intro answer v shown
  have hv : v = tickCalled s := by
    rw [tickCalled, videoCalled, timerTick_env]
  refine ⟨?_, tick_flags s, ?_, ?_⟩
  · rw [hv]
    exact tick_frame s
  · have h := tick_sameSound s
    split at h
    · rw [if_pos ‹_›]
      obtain ⟨⟨hcounter, hstep⟩, hch1, hsweep, hch2, hwave, hnoise⟩ := h
      exact ⟨_, rfl, hch1, hsweep, hch2, hwave, hnoise, hcounter, hstep⟩
    · rw [if_neg ‹_›]
      obtain ⟨⟨hcounter, hstep⟩, hch1, hsweep, hch2, hwave, hnoise⟩ := h
      exact ⟨hch1, hsweep, hch2, hwave, hnoise, hcounter, hstep⟩
  · obtain ⟨hwait, hresampler, hevents, hargs⟩ := tickApu_kept s
    rw [tick, ← hwait, ← hresampler, ← hevents, ← hargs]
    generalize tickApu (tickVideo (timerTick s)) = y
    split
    · rename_i hzero
      obtain ⟨h511, hmix⟩ := tickAudio_mixes hzero
      exact ⟨h511, congrArg Host.Outcome.next hmix⟩
    · rename_i hzero
      exact tickAudio_waits hzero

/-! ## The speed multiplier (R436) -/

/-- A state under another speed multiplier. -/
def State.atSpeed (s : State) (m : Half) : State := { s with sched := { s.sched with speed := m } }

theorem setTimer_atSpeed (s : State) (m : Half) (n : Fin 4) (t : Timer) :
    (s.atSpeed m).setTimer n t = (s.setTimer n t).atSpeed m := rfl

theorem fifoDrain_atSpeed (s : State) (m : Half) (f : FifoId) :
    fifoDrain f (s.atSpeed m) = (fifoDrain f s).atSpeed m := by
  unfold fifoDrain
  cases f <;> (rw [apply_ite (State.atSpeed · m)]; rfl)

/-- FIFO `f` after an overflow of timer `n`. -/
def overflowDrain (n : Fin 4) (f : FifoId) (s : State) : State := if drains n (s.fifo f) then fifoDrain f s else s

theorem overflowDrain_atSpeed (n : Fin 4) (f : FifoId) (s : State) (m : Half) :
    overflowDrain n f (s.atSpeed m) = (overflowDrain n f s).atSpeed m := by
  unfold overflowDrain
  rw [fifoDrain_atSpeed, apply_ite (State.atSpeed · m)]
  cases f <;> rfl

/-- A timer `n` reloaded and counted, with its flag if `irqEn`. -/
def overflowFlag (n : Fin 4) (irqEn : Bool) (t : Timer) (s : State) : State :=
  if irqEn then (s.setTimer n t).setFlags (timerFlag n) else s.setTimer n t

theorem overflowFlag_atSpeed (n : Fin 4) (irqEn : Bool) (t : Timer) (s : State) (m : Half) :
    overflowFlag n irqEn t (s.atSpeed m) = (overflowFlag n irqEn t s).atSpeed m := by
  cases irqEn <;> rfl

theorem overflowEffects_eq (n : Fin 4) (s : State) :
    overflowEffects n s = overflowDrain n .b (overflowDrain n .a (overflowFlag n (s.timer n).irqEn
      { s.timer n with counter := (s.timer n).reload, overflows := (s.timer n).overflows + 1 } s)) := rfl

theorem overflowEffects_atSpeed (s : State) (m : Half) (n : Fin 4) :
    overflowEffects n (s.atSpeed m) = (overflowEffects n s).atSpeed m := by
  rw [overflowEffects_eq, overflowEffects_eq, overflowFlag_atSpeed, overflowDrain_atSpeed, overflowDrain_atSpeed]
  rfl

theorem cascadeTo_atSpeed {inc : Fin 4 → State → State} {m : Half}
    (hinc : ∀ n s, inc n (s.atSpeed m) = (inc n s).atSpeed m) (n : Fin 4) (s : State) :
    cascadeTo inc n (s.atSpeed m) = (cascadeTo inc n s).atSpeed m := by
  unfold cascadeTo
  split
  · dsimp only
    rw [hinc, ← apply_ite (State.atSpeed · m)]
    rfl
  · rfl

theorem timerIncUpTo_atSpeed (fuel : Nat) (n : Fin 4) (s : State) (m : Half) :
    timerIncUpTo fuel n (s.atSpeed m) = (timerIncUpTo fuel n s).atSpeed m := by
  induction fuel generalizing n s with
  | zero => rfl
  | succ fuel ih =>
    unfold timerIncUpTo
    rw [overflowEffects_atSpeed, cascadeTo_atSpeed ih, apply_ite (State.atSpeed · m)]
    rfl

theorem timerTickOne_atSpeed (n : Fin 4) (s : State) (m : Half) :
    timerTickOne n (s.atSpeed m) = (timerTickOne n s).atSpeed m := by
  unfold timerTickOne timerInc
  dsimp only
  rw [setTimer_atSpeed, timerIncUpTo_atSpeed, apply_ite (State.atSpeed · m), apply_ite (State.atSpeed · m)]
  rfl

theorem timerTick_atSpeed (s : State) (m : Half) : timerTick (s.atSpeed m) = (timerTick s).atSpeed m := by
  unfold timerTick
  rw [timerTickOne_atSpeed, timerTickOne_atSpeed, timerTickOne_atSpeed, timerTickOne_atSpeed]

theorem IsVideoOp.atSpeed {op : State → State} (h : IsVideoOp op) (s : State) (m : Half) :
    op (s.atSpeed m) = (op s).atSpeed m := by
  obtain ⟨bits, rfl⟩ | ⟨pad, count, rfl⟩ | ⟨o, rfl⟩ := h <;> rfl

theorem videoIssued_atSpeed (xs : List VideoIssue) (s : State) (m : Half) :
    videoIssued xs (s.atSpeed m) = (videoIssued xs s).atSpeed m := by
  rw [videoIssued_eq_performIssues, videoIssued_eq_performIssues]
  unfold performIssues
  induction xs generalizing s with
  | nil => rfl
  | cons x xs ih =>
    rw [List.map_cons, List.foldl_cons, List.foldl_cons, ← ih]
    exact congrArg (List.foldl performIssue · _) ((videoIssue_isVideoOp x).atSpeed s m)

theorem videoCalled_atSpeed (s : State) (m : Half) : videoCalled (s.atSpeed m) = (videoCalled s).atSpeed m :=
  videoIssued_atSpeed (s.env.video.headD s.env.videoRest).issues
    { s with env := { s.env with video := s.env.video.tail } } m

/-- A state with other values of what the multiplier may change. -/
def State.rendered (s : State) (m : Half) (d : Bool) (o : List Output) : State :=
  { s with sched := { s.sched with speed := m, didRender := d }, out := o }

/-- The channel part and the audio part neither read nor change any of it. -/
theorem tickApu_rendered (s : State) (m : Half) (d : Bool) (o : List Output) :
    tickApu (s.rendered m d o) = (tickApu s).rendered m d o := by
  have hsound : SameSound s (s.rendered m d o) := ⟨⟨rfl, rfl⟩, rfl, rfl, rfl, rfl, rfl⟩
  obtain ⟨⟨hcounter, hstep⟩, hch1, hsweep, hch2, hwave, hnoise⟩ : SameSound (tickApu s) (tickApu (s.rendered m d o)) :=
    .ite .rfl (.ite .rfl (apuStep_sameSound hsound) hsound) hsound
  rw [tickApu_eq (s.rendered m d o), hcounter, hstep, hch1, hsweep, hch2, hwave, hnoise]
  have hs := tickApu_eq s
  generalize tickApu s = t at *
  rw [hs]
  rfl

theorem tickAudio_rendered (s : State) (m : Half) (d : Bool) (o : List Output) :
    tickAudio (s.rendered m d o) = (tickAudio s).rendered m d o := by
  unfold tickAudio
  rw [apply_ite (State.rendered · m d o)]
  rfl

/-- What is shown apart, the record is the same. -/
theorem showing_out (s : State) (shown : Bool) :
    (s.showing shown).out.filter (fun o => o != .render) = s.out.filter (fun o => o != .render) := by
  cases shown <;> rfl

theorem tick_out (s : State) :
    (tick s).out.filter (fun o => o != .render) = (tickCalled s).out.filter (fun o => o != .render) := by
  rw [tick_frame]
  exact showing_out (tickCalled s) _

/-- A tick under another multiplier: at most the multiplier, did_render and the Video.Render calls differ. -/
theorem tick_atSpeed (s : State) (m : Half) :
    ∃ shown, tick (s.atSpeed m) =
      (tick s).rendered m (s.sched.didRender || shown) ((tickCalled s).showing shown).out := by
  have hsched : (tickCalled s).sched = s.sched := by rw [tickCalled_frame]
  refine ⟨shows (s.env.video.headD s.env.videoRest).frameEnd (s.atSpeed m).sched, ?_⟩
  rw [tick, tickVideo_timerTick, tickCalled, timerTick_atSpeed, videoCalled_atSpeed, ← tickCalled, tick,
    tickVideo_timerTick, ← tickAudio_rendered, ← tickApu_rendered, ← hsched]
  rfl

theorem speedless_rendered {s : State} {o : List Output} (m : Half) (d : Bool)
    (h : s.out.filter (fun o => o != .render) = o.filter (fun o => o != .render)) :
    speedless s = speedless (s.rendered m d o) := by
  unfold speedless
  rw [h]
  rfl

/-- Settles O52: `tick_atSpeed`, and the record but for the Video.Render calls. -/
theorem tickDoesNotDependOnSpeed : Obligations.TickDoesNotDependOnSpeed := by
  intro s m
  obtain ⟨shown, h⟩ := tick_atSpeed s m
  refine ⟨tick s, tick (s.atSpeed m), rfl, rfl, ?_⟩
  rw [h]
  exact speedless_rendered _ _ ((tick_out s).trans (showing_out (tickCalled s) shown).symm)

end Sys2Proof.Machine
end

section
/-! PROOFS. RUN_FRAME's loops (R401, R433): what every other word leaves of its place, and what a transition of
the loops does. -/

namespace Sys2Proof.Machine

open Sys2Proof.Claims (frameLoop)

/-! ## What does not move RUN_FRAME's place -/

/-- `t` has the place of RUN_FRAME that `s` has, and all that says whether it is consistent. -/
def PlaceKept (s t : State) : Prop :=
  (t.sched.inFrame = s.sched.inFrame ∧ t.sched.speed = s.sched.speed ∧ t.sched.i = s.sched.i ∧
    t.sched.carry = s.sched.carry) ∧
  (t.seq.phase = s.seq.phase ∧ t.seq.budget = s.seq.budget) ∧ t.tornDown = s.tornDown

theorem PlaceKept.refl (s : State) : PlaceKept s s := ⟨⟨rfl, rfl, rfl, rfl⟩, ⟨rfl, rfl⟩, rfl⟩

theorem PlaceKept.trans {s t u : State} (h : PlaceKept s t) (k : PlaceKept t u) : PlaceKept s u := by
  obtain ⟨⟨h1, h2, h3, h4⟩, ⟨h5, h6⟩, h7⟩ := h
  obtain ⟨⟨k1, k2, k3, k4⟩, ⟨k5, k6⟩, k7⟩ := k
  exact ⟨⟨k1.trans h1, k2.trans h2, k3.trans h3, k4.trans h4⟩, ⟨k5.trans h5, k6.trans h6⟩, k7.trans h7⟩

/-- What keeps the sequencer, the teardown and the scheduler but for the CPU's state keeps the place. -/
theorem ClockFrame.placeKept {s t : State} (h : ClockFrame s t) (hseq : t.seq = s.seq)
    (htorn : t.tornDown = s.tornDown) : PlaceKept s t := by
  obtain ⟨hsched, -⟩ := h
  unfold PlaceKept
  rw [hsched, hseq, htorn]
  exact PlaceKept.refl s

theorem TimerFrame.placeKept {s t : State} (h : TimerFrame s t) : PlaceKept s t := by
  rw [h]
  exact .refl s

theorem SoundFrame.placeKept {s t : State} (h : SoundFrame s t) : PlaceKept s t := by
  rw [h]
  exact .refl s

theorem writeReg_placeKept (be : BitVec 2) (data : Half) (r : Reg) (s : State) :
    PlaceKept s (writeReg be data r s) := by
  obtain ⟨-, -, -, hseq, -, -, -, htorn, -⟩ := writeReg_frame be data r s
  exact (writeReg_clockFrame be data r s).placeKept hseq htorn

theorem leaveRunning_placeKept (h : HaltState) (s : State) : PlaceKept s (s.leaveRunning h) :=
  (leaveRunning_clockFrame h s).placeKept (by simp) (by simp)

theorem cpuIntrwait_placeKept (mask : BitVec 14) (s : State) : PlaceKept s (cpuIntrwait mask s) := by
  refine (cpuIntrwait_clockFrame mask s).placeKept ?_ ?_ <;> (unfold cpuIntrwait; split <;> rfl)

theorem pass_placeKept (s : State) : PlaceKept s (pass s) := by
  obtain ⟨hspeed, hframe, hi, hcarry, -, hphase, hbudget, -⟩ := pass_place s
  obtain ⟨-, -, -, -, -, htorn⟩ := pass_kept s
  exact ⟨⟨hframe, hspeed, hi, hcarry⟩, ⟨hphase, hbudget⟩, htorn⟩

theorem tick_placeKept (s : State) : PlaceKept s (tick s) := by
  rw [tick_frame, tickCalled_frame]
  exact .refl s

theorem fifoDrain_placeKept (f : FifoId) (s : State) : PlaceKept s (fifoDrain f s) := by
  rw [fifoDrain_frame]
  exact .refl s

theorem ringPush_placeKept (s : State) : PlaceKept s (ringPush s) := by
  unfold ringPush
  (repeat' split) <;> exact .refl s

theorem raiseFault_placeKept (c : FaultCode) (s : State) : PlaceKept s (s.raiseFault c) := by
  unfold State.raiseFault
  split <;> exact .refl s

/-- Every instruction of another port than HOST. -/
theorem exec_placeKept {i : Instr} (hp : i.port ≠ .host) (s : State) : ∃ t, exec i s = .next t ∧ PlaceKept s t := by
  cases i with
  | reset | runFrame | setSpeed m => exact absurd rfl hp
  | regWriteSoundcntX be data => exact ⟨_, rfl, writeReg_placeKept be data .soundcntX s⟩
  | regWriteIme be data => exact ⟨_, rfl, writeReg_placeKept be data .ime s⟩
  | regWriteHaltcnt be data => exact ⟨_, rfl, writeReg_placeKept be data .haltcnt s⟩
  | cpuHalt => exact ⟨_, rfl, leaveRunning_placeKept .halted s⟩
  | cpuStop => exact ⟨_, rfl, leaveRunning_placeKept .stopped s⟩
  | cpuIntrwait mask => exact ⟨_, rfl, cpuIntrwait_placeKept mask s⟩
  | evtPass => exact ⟨_, rfl, pass_placeKept s⟩
  | evtTick => exact ⟨_, rfl, tick_placeKept s⟩
  | evtTimerTick => exact ⟨_, rfl, (timerTick_frame s).placeKept⟩
  | evtTimerInc n => exact ⟨_, rfl, (timerInc_induct (TimerFrame.closed s) n s (.refl s)).placeKept⟩
  | evtTimerOverflow n => exact ⟨_, rfl, (timerOverflow_induct (TimerFrame.closed s) n s (.refl s)).placeKept⟩
  | evtFifoDrain f => exact ⟨_, rfl, fifoDrain_placeKept f s⟩
  | evtApuStep => exact ⟨_, rfl, (apuStep_soundFrame s).placeKept⟩
  | evtFsClock => exact ⟨_, rfl, (fsClock_soundFrame s).placeKept⟩
  | evtSweepClock => exact ⟨_, rfl, (sweepClock_soundFrame s).placeKept⟩
  | evtRingPush => exact ⟨_, rfl, ringPush_placeKept s⟩
  | _ => exact ⟨_, rfl, .refl s⟩

theorem present_placeKept {p : Port} {w : Word} {s t : State} (hp : p ≠ .host) (h : present p w s = .next t) :
    PlaceKept s t := by
  cases hdec : decode p w with
  | refused e =>
    rw [present_refused hdec] at h
    cases h
    exact .refl s
  | instr i =>
    obtain ⟨-, hport, -⟩ := decode_instr hdec
    obtain ⟨u, e, hkept⟩ := exec_placeKept (hport ▸ hp) s
    rw [present_instr hdec, e] at h
    cases h
    exact hkept

theorem presentExternal_placeKept {p : Port} {w : Word} {s t : State} (hp : p ≠ .host)
    (h : presentExternal p w s = .next t) : PlaceKept s t := by
  obtain ⟨-, -, e⟩ | ⟨-, e⟩ := presentExternal_cases p w s <;> rw [e] at h
  · cases h
    exact .refl s
  · exact present_placeKept hp h

/-! ## What a transition does to the place -/

/-- From a state with a consistent place, `t` is one: in a frame `i` stays or grows by one, and the frame ends only with
its budget used up, with did_render returned. -/
def FrameStep (s t : State) : Prop :=
  t.frameOk ∧
  (s.sched.inFrame = true →
    t.tornDown = false ∧
    (t.sched.i = s.sched.i ∨ t.sched.i = s.sched.i + 1) ∧
    (t.sched.inFrame = false →
      s.sched.i = 280896 * s.sched.speed.toNat ∧ t.sched.i = s.sched.i ∧ t.out = .frameDone s.sched.didRender :: s.out))

theorem frameStep_of_placeKept {s t : State} (hs : s.frameOk) (h : PlaceKept s t) : FrameStep s t := by
  obtain ⟨⟨hframe, hspeed, hi, hcarry⟩, ⟨hphase, hbudget⟩, htorn⟩ := h
  have ht : t.frameOk := by
    unfold State.frameOk frameBudget
    rw [hframe, hspeed, hi, hcarry, hphase, hbudget, htorn]
    exact hs
  obtain ⟨-, -, -, -, hup⟩ := hs
  exact ⟨ht, fun hin => ⟨htorn.trans (hup hin), .inl hi, fun hout => absurd (hframe.symm.trans hout) (by simp [hin])⟩⟩

/-- Between frames only the place after the transition matters. -/
theorem frameStep_between {s t : State} (hframe : s.sched.inFrame = false) (ht : t.frameOk) : FrameStep s t :=
  ⟨ht, fun hin => absurd (hframe.symm.trans hin) (by decide)⟩

theorem frameOk_of_idle {s : State} (hframe : s.sched.inFrame = false) (hphase : s.seq.phase = .idle) : s.frameOk := by
  simp [State.frameOk, hframe, hphase]

theorem idle_of_frameOk {s : State} (hs : s.frameOk) (hframe : s.sched.inFrame = false) : s.seq.phase = .idle := by
  obtain ⟨hiff, -⟩ := hs
  simpa [hframe] using hiff

theorem budget_of_frameOk {s : State} (hs : s.frameOk) (hphase : s.seq.phase ≠ .idle) :
    s.seq.budget = 280896 * s.sched.speed.toNat := by
  obtain ⟨-, hbudget, -⟩ := hs
  exact (hbudget hphase).1

/-- A transition of the loops that does not end the frame. -/
theorem frameStep_inside {s t : State} (hs : s.frameOk) (hphase : s.seq.phase ≠ .idle) (htphase : t.seq.phase ≠ .idle)
    (hframe : t.sched.inFrame = s.sched.inFrame) (hspeed : t.sched.speed = s.sched.speed)
    (hbudget : t.seq.budget = s.seq.budget) (htorn : t.tornDown = s.tornDown)
    (hi : t.sched.i = s.sched.i ∨ t.sched.i = s.sched.i + 1 ∧ s.sched.i < s.seq.budget)
    (hbody : t.seq.phase = .carryTick ∨ t.seq.phase = .passRun ∨ t.seq.phase = .tickRun → t.sched.i < s.seq.budget)
    (hcarry : t.seq.phase = .carryTick → 0 < t.sched.carry) : FrameStep s t := by
  obtain ⟨hiff, hheld, -, -, hup⟩ := hs
  obtain ⟨heq, hle⟩ := hheld hphase
  have hin : s.sched.inFrame = true := hiff.mpr hphase
  have htin : t.sched.inFrame = true := hframe.trans hin
  have htup : t.tornDown = false := htorn.trans (hup hin)
  refine ⟨⟨⟨fun _ => htphase, fun _ => htin⟩, fun _ => ⟨?_, by omega⟩, by rwa [hbudget], hcarry, fun _ => htup⟩,
    fun _ => ⟨htup, hi.imp_right And.left, fun hout => absurd (htin.symm.trans hout) (by decide)⟩⟩
  rw [hbudget, heq, frameBudget, frameBudget, hspeed]

/-- A transition to the test of one of the three loops, where nothing is asked of `i` and carry_ticks. -/
theorem frameStep_toTest {s t : State} (hs : s.frameOk) (hphase : s.seq.phase ≠ .idle)
    (htest : t.seq.phase = .carry ∨ t.seq.phase = .pass ∨ t.seq.phase = .ticks)
    (hframe : t.sched.inFrame = s.sched.inFrame) (hspeed : t.sched.speed = s.sched.speed)
    (hbudget : t.seq.budget = s.seq.budget) (htorn : t.tornDown = s.tornDown)
    (hi : t.sched.i = s.sched.i ∨ t.sched.i = s.sched.i + 1 ∧ s.sched.i < s.seq.budget) : FrameStep s t := by
  refine frameStep_inside hs hphase ?_ hframe hspeed hbudget htorn hi ?_ ?_ <;>
    obtain h | h | h := htest <;> simp [h]

/-- The sequencer's own transitions, by the place in R401. -/
theorem sequence_frameStep {s : State} (hs : s.frameOk) : FrameStep s (sequence s) := by
  by_cases hne : s.seq.phase = .idle
  · simpa only [sequence, hne] using frameStep_of_placeKept hs (.refl s)
  have ⟨_, hheld, hbody, _, hup⟩ := hs
  unfold sequence
  split <;> rename_i hphase
  · exact absurd hphase hne
  · split
    · rename_i hloop
      exact frameStep_inside hs hne nofun rfl rfl rfl rfl (.inl rfl) (fun _ => hloop.2) (fun _ => hloop.1)
    · exact frameStep_toTest hs hne (.inr (.inl rfl)) rfl rfl rfl rfl (.inl rfl)
  · exact frameStep_toTest hs hne (.inl rfl) rfl rfl rfl rfl (.inr ⟨rfl, hbody (.inl hphase)⟩)
  · split
    · rename_i hloop
      exact frameStep_inside hs hne nofun rfl rfl rfl rfl (.inl rfl) (fun _ => hloop) nofun
    · have hle := (hheld hne).2
      have hfull : s.sched.i = 280896 * s.sched.speed.toNat := by
        rw [← budget_of_frameOk hs hne]
        omega
      exact ⟨frameOk_of_idle rfl rfl, fun hin => ⟨hup hin, .inl rfl, fun _ => ⟨hfull, rfl, rfl⟩⟩⟩
  · exact frameStep_toTest hs hne (.inr (.inr rfl)) rfl rfl rfl rfl (.inl rfl)
  · split
    · rename_i hloop
      split
      · exact frameStep_inside hs hne nofun rfl rfl rfl rfl (.inl rfl) (fun _ => hloop.2) nofun
      · exact frameStep_toTest hs hne (.inr (.inr hphase)) rfl rfl rfl rfl (.inr ⟨rfl, hloop.2⟩)
    · exact frameStep_toTest hs hne (.inr (.inl rfl)) rfl rfl rfl rfl (.inl rfl)
  · exact frameStep_toTest hs hne (.inr (.inr rfl)) rfl rfl rfl rfl (.inr ⟨rfl, hbody (.inr (.inr hphase))⟩)

/-- A word of the host, before teardown: refused, or between frames a RESET, a SET_SPEED or the begin of a frame. -/
theorem present_host_frameStep {w : Word} {s t : State} (hs : s.frameOk) (htorn : s.tornDown = false)
    (h : present .host w s = .next t) : FrameStep s t := by
  cases hdec : decode .host w with
  | refused e =>
    rw [present_refused hdec] at h
    cases h
    exact frameStep_of_placeKept hs (.refl s)
  | instr i =>
    rw [present_instr hdec] at h
    obtain ⟨hrow, hp, -⟩ := decode_instr hdec
    obtain ⟨-, ⟨rfl, -⟩ | rfl | ⟨rfl, -⟩⟩ := rowInstr_host hrow hp <;> cases h
    · obtain ⟨-, e⟩ | ⟨hframe, e⟩ := betweenFrames_cases .reset s resetFields <;> rw [resetBlock, e]
      · exact frameStep_of_placeKept hs (.refl s)
      · have hidle := idle_of_frameOk hs hframe
        exact frameStep_between hframe (frameOk_of_idle rfl hidle)
    · obtain ⟨-, e⟩ | ⟨hframe, e⟩ := betweenFrames_cases .runFrame s beginFrame <;> rw [runFrame, e]
      · exact frameStep_of_placeKept hs (.refl s)
      · exact frameStep_between hframe (by simp [State.frameOk, beginFrame, frameBudget, htorn])
    · obtain ⟨_, e⟩ | ⟨hframe, -, e⟩ := setSpeed_cases (wordData w) s <;> rw [e]
      · exact frameStep_of_placeKept hs (.refl s)
      · have hidle := idle_of_frameOk hs hframe
        exact frameStep_between hframe (frameOk_of_idle hframe hidle)

theorem emulate_frameStep {s t : State} (hs : s.frameOk) (h : emulate s = .next t) : FrameStep s t := by
  obtain ⟨-, e⟩ | ⟨-, -, e⟩ | ⟨-, ev, es, -, e⟩ := emulate_cases s <;> rw [e] at h
  · cases h
    exact frameStep_of_placeKept hs (.refl s)
  · cases h
    exact sequence_frameStep hs
  · have hload : PlaceKept s ({ s with events := es }.loadArg ev.arg) := by simp [PlaceKept]
    exact frameStep_of_placeKept hs (hload.trans (present_placeKept (by decide) h))

theorem performMove_frameStep {m : Move} {s t : State} (hs : s.frameOk) (h : performMove m s = .next t) :
    FrameStep s t := by
  cases m with
  | emulate => exact emulate_frameStep hs h
  | bus w | cpu w | irqsrc w | sink w =>
    exact frameStep_of_placeKept hs (presentExternal_placeKept (by decide) h)
  | teardown =>
    cases h
    obtain ⟨-, e⟩ | ⟨hframe, -, e⟩ := teardown_cases s <;> rw [e]
    · exact frameStep_of_placeKept hs (.refl s)
    · have hidle := idle_of_frameOk hs hframe
      exact frameStep_between hframe (frameOk_of_idle hframe hidle)
  | host w =>
    obtain ⟨-, -, e⟩ | ⟨hact, e⟩ := presentExternal_cases .host w s <;> rw [performMove, e] at h
    · cases h
      exact frameStep_of_placeKept hs (.refl s)
    · obtain ⟨htorn, -⟩ := hact.resolve_left (by decide)
      exact present_host_frameStep hs htorn h

theorem step_frameStep {s t : State} (hs : s.frameOk) (h : step s = .next t) : FrameStep s t := by
  obtain rfl | h | ⟨m, ms, -, h⟩ := step_cases h
  · exact frameStep_of_placeKept hs (raiseFault_placeKept .invariant s)
  · exact emulate_frameStep hs h
  · exact performMove_frameStep (s := { s with env := { s.env with script := ms } }) hs h

/-! ## The loops, line by line -/

theorem frameLoop_sequence {s : State} (hs : s.frameOk) : frameLoop s (sequence s) := by
  by_cases hne : s.seq.phase = .idle
  · simp only [frameLoop, sequence, hne]
  unfold frameLoop sequence
  rw [← budget_of_frameOk hs hne]
  cases hphase : s.seq.phase with
  | carry | pass => dsimp only; split <;> rfl
  | ticks => dsimp only; (repeat' split) <;> rfl
  | _ => rfl

/-- Where no event waits and no agent outside moves, a transition in a frame is the sequencer's. -/
theorem step_eq_sequence {s : State} (hsafe : s.safe = true) (hscript : s.env.script = []) (hevents : s.events = [])
    (htorn : s.tornDown = false) : step s = .next (sequence s) := by
  rw [step_of_safe hsafe]
  simp [nextMove, hscript, emulate, htorn, hevents]

/-- Settles O47: `step_frameStep`, and `frameLoop_sequence` for the loops themselves. -/
theorem frameConsumesExactlyItsBudget : Obligations.FrameConsumesExactlyItsBudget := by
  intro s t hs h
  obtain ⟨ht, hin⟩ := step_frameStep hs h
  refine ⟨ht, fun hframe => ?_⟩
  obtain ⟨htorn, hi, hend⟩ := hin hframe
  refine ⟨htorn, hi, hend, fun hsafe hscript hevents => ?_⟩
  have ⟨_, _, _, _, hup⟩ := hs
  rw [step_eq_sequence hsafe hscript hevents (hup hframe)] at h
  cases h
  exact frameLoop_sequence hs

end Sys2Proof.Machine
end

section
/-! PROOFS. The timers, one operation at a time (R500-R506): their registers, what an overflow does to the timer, its
flag and the FIFOs, and what the events send. -/

namespace Sys2Proof.Machine

open Sys2Proof.Claims (drained)

/-! ## Registers (R501, R502) -/

theorem State.setTimer_timer (s : State) (n : Fin 4) : s.setTimer n (s.timer n) = s := by
  simp [State.setTimer, State.timer]

theorem State.timer_setTimer (s : State) (n m : Fin 4) (t : Timer) :
    (s.setTimer n t).timer m = if m = n then t else s.timer m := by
  split
  · subst m; exact s.timer_setTimer_same n t
  · exact s.timer_setTimer_other m n t ‹_›

/-- The value from which a write of TMnCNT_H takes the four fields (R205, R502). -/
def Timer.writtenControl (t : Timer) (be : BitVec 2) (data : Half) : Half := merge be t.packControl data &&& 0x00C7

/-- The fields of TMnCNT_H, taken from a value of the register (R502). -/
def Timer.withControl (t : Timer) (v : Half) : Timer :=
  { t with prescaler := v.extractLsb' 0 2, cascade := v.getLsbD 2, irqEn := v.getLsbD 6, enable := v.getLsbD 7 }

/-- A write of TMnCNT_H, start or not (R502). -/
theorem Timer.writeControl_eq (t : Timer) (be : BitVec 2) (data : Half) :
    t.writeControl be data =
      if t.enable = false ∧ (t.withControl (t.writtenControl be data)).enable = true then
        { t.withControl (t.writtenControl be data) with counter := t.reload, preAcc := 0 }
      else t.withControl (t.writtenControl be data) := by
  unfold Timer.writeControl
  dsimp only
  refine if_congr ?_ rfl rfl
  rw [Bool.and_eq_true, Bool.not_eq_true']
  rfl

/-- All four fields lie in the low lane: it alone says whether they come from the data. -/
theorem Timer.writtenControl_eq (t : Timer) (be : BitVec 2) (data : Half) :
    t.writtenControl be data = (if be.getLsbD 0 then data else t.packControl) &&& 0x00C7 := by
  apply BitVec.eq_of_getLsbD_eq
  intro i hi
  rw [Timer.writtenControl, BitVec.getLsbD_and, BitVec.getLsbD_and, merge_getLsbD _ _ _ _ hi]
  by_cases h8 : i < 8
  · rw [Nat.div_eq_of_lt h8, apply_ite (BitVec.getLsbD · i)]
  · have hzero : (0x00C7 : Half).getLsbD i = false := by interval_cases i <;> rfl
    rw [hzero, Bool.and_false, Bool.and_false]

/-- The fields put together and taken apart again. -/
theorem Timer.withControl_packControl (t : Timer) : t.withControl (t.packControl &&& 0x00C7) = t := by
  have hprescaler : (t.packControl &&& 0x00C7).extractLsb' 0 2 = t.prescaler := by
    apply BitVec.eq_of_getLsbD_eq
    intro i hi
    simp only [Timer.packControl, BitVec.getLsbD_extractLsb', BitVec.getLsbD_and, BitVec.getLsbD_append]
    interval_cases i <;> simp
  rw [Timer.withControl, hprescaler]
  simp only [Timer.packControl, BitVec.getLsbD_and, BitVec.getLsbD_append]
  simp

/-- A write without the low lane changes nothing. -/
theorem Timer.writeControl_of_high (t : Timer) {be : BitVec 2} (data : Half) (hbe : be.getLsbD 0 = false) :
    t.writeControl be data = t := by
  have hkept : t.withControl (t.writtenControl be data) = t := by
    rw [Timer.writtenControl_eq, hbe]
    exact t.withControl_packControl
  rw [Timer.writeControl_eq, hkept, if_neg fun h => absurd (h.1.symm.trans h.2) (by decide)]

/-- A write with the low lane sets the four fields from the data. -/
theorem Timer.writeControl_fields (t : Timer) {be : BitVec 2} (data : Half) (hbe : be.getLsbD 0 = true) :
    (t.writeControl be data).prescaler.toNat = data.toNat % 4 ∧ (t.writeControl be data).cascade = data.getLsbD 2 ∧
    (t.writeControl be data).irqEn = data.getLsbD 6 ∧ (t.writeControl be data).enable = data.getLsbD 7 := by
  have hprescaler : ((data &&& 0x00C7).extractLsb' 0 2).toNat = data.toNat % 4 := by
    rw [BitVec.extractLsb'_toNat, BitVec.toNat_and, Nat.shiftRight_zero, Nat.and_mod_two_pow]
    exact Nat.and_two_pow_sub_one_of_lt_two_pow (Nat.mod_lt _ (by decide))
  rw [Timer.writeControl_eq, Timer.writtenControl_eq, if_pos hbe]
  split <;> exact ⟨hprescaler, by simp [Timer.withControl], by simp [Timer.withControl], by simp [Timer.withControl]⟩

/-- Only a start loads the counter and clears the accumulator (D19). -/
theorem Timer.writeControl_start (t : Timer) (be : BitVec 2) (data : Half) :
    if t.enable = false ∧ (t.writeControl be data).enable = true then
      (t.writeControl be data).counter = t.reload ∧ (t.writeControl be data).preAcc = 0
    else (t.writeControl be data).counter = t.counter ∧ (t.writeControl be data).preAcc = t.preAcc := by
  rw [Timer.writeControl_eq]
  by_cases hstart : t.enable = false ∧ (t.withControl (t.writtenControl be data)).enable = true
  · rw [if_pos hstart, if_pos hstart]
    exact ⟨rfl, rfl⟩
  · rw [if_neg hstart, if_neg hstart]
    exact ⟨rfl, rfl⟩

/-- Settles O14: the fields of a write with the low lane, the write without it, and the start. -/
theorem timerControlWriteStartsOnEnable : Obligations.TimerControlWriteStartsOnEnable := by
  intro n be data s
  refine ⟨⟨_, rfl, ?_⟩, _, rfl, ?_⟩
  · rw [writeTmcntL, State.timer_setTimer_same]
  rw [writeTmcntH, State.timer_setTimer_same]
  refine ⟨(s.timer n).writeControl_fields data, fun hbe => ?_, (s.timer n).writeControl_start be data⟩
  rw [Timer.writeControl_of_high _ data hbe, State.setTimer_timer]

/-! ## One increment (R504) -/

/-- A timer that has overflowed: reloaded, and counted (R505). -/
def Timer.overflowed (t : Timer) : Timer := { t with counter := t.reload, overflows := t.overflows + 1 }

/-- The next increment overflows. -/
def Timer.full (t : Timer) : Bool := t.counter == 0xFFFF

/-- A timer after one increment (R504). -/
def Timer.inc (t : Timer) : Timer := if t.full then t.overflowed else { t with counter := t.counter + 1 }

/-- A timer that counts the overflows of the one below it, if there is one (R506). -/
def Timer.chained (t : Timer) : Bool := t.enable && t.cascade

theorem Timer.full_iff (t : Timer) : t.full = true ↔ t.counter = 0xFFFF := beq_iff_eq

theorem timerInc_of_not_full {n : Fin 4} {s : State} (h : (s.timer n).full = false) :
    timerInc n s = s.setTimer n (s.timer n).inc := by
  rw [timerInc, timerIncUpTo, if_neg fun hc => by simp [(Timer.full_iff _).mpr hc] at h, Timer.inc, h]
  rfl

/-- TIMER_INC of a full timer is TIMER_OVERFLOW: three cascades behind it are enough. -/
theorem timerInc_of_full {n : Fin 4} {s : State} (h : (s.timer n).full = true) : timerInc n s = timerOverflow n s := by
  rw [timerInc, timerIncUpTo, if_pos ((Timer.full_iff _).mp h), timerOverflow]
  unfold cascadeTo
  split
  · dsimp only
    rw [timerInc, timerIncUpTo_enough _ _ 3 4 (by dsimp only; omega) (by omega)]
  · rfl

/-- Settles O15: `timerInc_of_not_full` and `timerInc_of_full`. -/
theorem timerIncrementOverflowsFromFFFF : Obligations.TimerIncrementOverflowsFromFFFF := by
  intro n s
  refine ⟨fun h => ?_, fun h => congrArg Host.Outcome.next (timerInc_of_full ((Timer.full_iff _).mpr h))⟩
  have hfull : (s.timer n).full = false := Bool.eq_false_iff.mpr fun hf => h ((Timer.full_iff _).mp hf)
  refine congrArg Host.Outcome.next ((timerInc_of_not_full hfull).trans ?_)
  rw [Timer.inc, hfull]
  rfl

/-! ## What a timer event sends, and the other flags (R505) -/

/-- What was sent from `s` to `t` is FIFO requests, and the FIFOs count them (R703, R712). -/
def RequestsSent (s t : State) : Prop :=
  ∃ os, t.out = os ++ s.out ∧ (∀ o ∈ os, ∃ f, o = .dmaFifoRequest f) ∧
    ∀ f, (t.fifo f).requests = (s.fifo f).requests + os.count (.dmaFifoRequest f)

theorem RequestsSent.refl (s : State) : RequestsSent s s := ⟨[], rfl, by simp, by simp⟩

/-- FIFO_DRAIN, with what it leaves in its FIFO (R703, R712). -/
theorem fifoDrain_eq (f : FifoId) (s : State) :
    fifoDrain f s =
      if (s.fifo f).queue.tail.length ≤ 16 then (s.setFifo f (drained (s.fifo f))).emit (.dmaFifoRequest f)
      else s.setFifo f (drained (s.fifo f)) := by
  unfold fifoDrain drained
  rw [Fifo.pop_eq]
  by_cases hlow : (s.fifo f).queue.tail.length ≤ 16
  · simp only [Config.fifoDmaThreshold, hlow, ↓reduceIte]
  · simp only [Config.fifoDmaThreshold, hlow, ↓reduceIte]

/-- FIFO_DRAIN drains its FIFO and leaves the other (R703). -/
theorem fifoDrain_fifo (f g : FifoId) (s : State) :
    (fifoDrain f s).fifo g = if g = f then drained (s.fifo f) else s.fifo g := by
  have hset : (fifoDrain f s).fifo g = (s.setFifo f (drained (s.fifo f))).fifo g := by
    rw [fifoDrain_eq]
    split
    · exact State.emit_fifo _ _ _
    · rfl
  rw [hset]
  split
  · subst g; exact State.fifo_setFifo_same _ _ _
  · exact State.fifo_setFifo_other _ _ _ _ ‹_›

/-- FIFO_DRAIN sends a request exactly where it counts one (R703, R712). -/
theorem fifoDrain_requestsSent (f : FifoId) (s : State) : RequestsSent s (fifoDrain f s) := by
  have hcount (g : FifoId) : ((fifoDrain f s).fifo g).requests =
      (s.fifo g).requests + if g = f ∧ (s.fifo f).queue.tail.length ≤ 16 then 1 else 0 := by
    rw [fifoDrain_fifo]
    split
    · subst g
      simp only [drained, true_and]
      split <;> rfl
    · simp [*]
  by_cases hlow : (s.fifo f).queue.tail.length ≤ 16
  · refine ⟨[.dmaFifoRequest f], by rw [fifoDrain_eq, if_pos hlow]; simp, by simp, fun g => ?_⟩
    rw [hcount g, List.count_singleton]
    simp only [hlow, and_true, beq_iff_eq, Output.dmaFifoRequest.injEq, @eq_comm _ g f]
  · refine ⟨[], by rw [fifoDrain_eq, if_neg hlow]; simp, by simp, fun g => ?_⟩
    rw [hcount g, if_neg (fun h => hlow h.2)]
    rfl

theorem RequestsSent.trans {s t u : State} (h : RequestsSent s t) (k : RequestsSent t u) : RequestsSent s u := by
  obtain ⟨os, hout, hreq, hcount⟩ := h
  obtain ⟨os', hout', hreq', hcount'⟩ := k
  refine ⟨os' ++ os, by rw [hout', hout, List.append_assoc], fun o ho => ?_, fun f => ?_⟩
  · exact (List.mem_append.mp ho).elim (hreq' o) (hreq o)
  · rw [hcount', hcount, List.count_append]
    omega

theorem RequestsSent.closed (s : State) : TimerClosed (RequestsSent s) where
  setTimer t n x h := h.trans ⟨[], rfl, by simp, by simp⟩
  setFlags t n h := h.trans ⟨[], rfl, by simp, by simp⟩
  drain t f h := h.trans (fifoDrain_requestsSent f t)

/-- A flag that is no timer's stays (R505, R910). -/
theorem otherFlag_closed (s : State) {b : Nat} (hb : b < 3 ∨ 6 < b) :
    TimerClosed (fun t => t.irq.flags.getLsbD b = s.irq.flags.getLsbD b) where
  setTimer _ _ _ h := h
  setFlags t n h := by
    have := n.isLt
    rw [State.setFlags_getLsbD, h, timerFlag_getLsbD, decide_eq_false (by omega), Bool.or_false]
  drain t f h := by
    rw [fifoDrain_frame f t]
    exact h

end Sys2Proof.Machine
end

section
/-! PROOFS. The cascade (R505, R506): which timers an overflow makes overflow, and what they do to the timers, the flags
and the FIFOs. -/

namespace Sys2Proof.Machine

open Sys2Proof.Claims (drained overflowReaches cascaded drainedBy)

/-! ## What the timers that overflow do -/

/-- The timer that a FIFO selects (R106, R706). -/
def Fifo.selected (q : Fifo) : Fin 4 := if q.timer then 1 else 0

/-- A FIFO once the timers of `o` have overflowed. -/
def drainedIf (o : Fin 4 → Bool) (q : Fifo) : Fifo := if o q.selected then drained q else q

/-- From `s` to `t` exactly the timers of `o` overflowed, each once: they are counted, those with irq_en 1 are flagged,
and the FIFOs that select them are drained (R505). -/
structure Overflows (s t : State) (o : Fin 4 → Bool) : Prop where
  timer : ∀ m, t.timer m = { s.timer m with
    counter := (t.timer m).counter, preAcc := (t.timer m).preAcc, overflows := (s.timer m).overflows + (o m).toNat }
  flag : ∀ m : Fin 4, t.irq.flags.getLsbD (3 + m.val) =
    (s.irq.flags.getLsbD (3 + m.val) || (o m && (s.timer m).irqEn))
  fifo : ∀ f, t.fifo f = drainedIf o (s.fifo f)

theorem Overflows.refl (s : State) : Overflows s s fun _ => false := ⟨fun _ => rfl, fun m => by simp, fun _ => rfl⟩

theorem Overflows.irqEn {s t : State} {o : Fin 4 → Bool} (h : Overflows s t o) (m : Fin 4) :
    (t.timer m).irqEn = (s.timer m).irqEn := by rw [h.timer m]

theorem Overflows.chained {s t : State} {o : Fin 4 → Bool} (h : Overflows s t o) (m : Fin 4) :
    (t.timer m).chained = (s.timer m).chained := by rw [h.timer m]; rfl

theorem Overflows.overflows {s t : State} {o : Fin 4 → Bool} (h : Overflows s t o) (m : Fin 4) :
    (t.timer m).overflows = (s.timer m).overflows + (o m).toNat := by rw [h.timer m]

/-- A FIFO drained in the first of two events is not drained again where no timer overflows in both. -/
theorem drainedIf_drainedIf {o o' : Fin 4 → Bool} (hd : ∀ m, o' m = true → o m = false) (q : Fifo) :
    drainedIf o' (drainedIf o q) = drainedIf (fun m => o m || o' m) q := by
  have hsel : (drained q).selected = q.selected := rfl
  unfold drainedIf
  cases ho : o q.selected with
  | false => simp [ho]
  | true =>
    have ho' : o' q.selected = false := Bool.eq_false_iff.mpr fun h => by simp [hd _ h] at ho
    simp [hsel, ho, ho']

/-- Two events in which no timer overflows twice. -/
theorem Overflows.trans {s t u : State} {o o' : Fin 4 → Bool} (h : Overflows s t o) (k : Overflows t u o')
    (hd : ∀ m, o' m = true → o m = false) : Overflows s u fun m => o m || o' m where
  timer m := by
    have hsum : (o m || o' m).toNat = (o m).toNat + (o' m).toNat := by
      cases ho' : o' m with
      | false => simp
      | true => simp [hd m ho']
    rw [k.timer m, h.timer m, hsum, Nat.add_assoc]
  flag m := by rw [k.flag m, h.flag m, h.irqEn m, Bool.or_assoc, ← Bool.and_or_distrib_right]
  fifo f := by rw [k.fifo f, h.fifo f, drainedIf_drainedIf hd]

/-- A timer's counter and accumulator may change without an overflow. -/
theorem Overflows.setTimer (s : State) (n : Fin 4) (c : Half) (p : BitVec 10) :
    Overflows s (s.setTimer n { s.timer n with counter := c, preAcc := p }) fun _ => false where
  timer m := by
    rw [State.timer_setTimer]
    split
    · subst m; rfl
    · rfl
  flag m := by simp
  fifo f := by rw [State.setTimer_fifo]; rfl

/-- A drain leaves the timers and the interrupt registers. -/
theorem overflowDrain_kept (n : Fin 4) (f : FifoId) (s : State) :
    (overflowDrain n f s).timers = s.timers ∧ (overflowDrain n f s).irq = s.irq := by
  unfold overflowDrain
  split
  · rw [fifoDrain_frame]; exact ⟨rfl, rfl⟩
  · exact ⟨rfl, rfl⟩

/-- An overflow drains the FIFOs that select the timer; timers 2 and 3 are selected by none. -/
theorem drains_eq (n : Fin 4) (q : Fifo) : drains n q = (q.selected == n) := by
  unfold drains Fifo.selected
  cases q.timer <;> revert n <;> decide

theorem overflowDrain_fifo (n : Fin 4) (f g : FifoId) (s : State) :
    (overflowDrain n f s).fifo g = if g = f then drainedIf (· == n) (s.fifo f) else s.fifo g := by
  unfold overflowDrain drainedIf
  rw [drains_eq]
  split
  · rw [fifoDrain_fifo]
  · split
    · subst g; rfl
    · rfl

theorem overflowFlag_flags (n : Fin 4) (irqEn : Bool) (t : Timer) (s : State) (k : Nat) :
    (overflowFlag n irqEn t s).irq.flags.getLsbD k = (s.irq.flags.getLsbD k || (decide (k = 3 + n.val) && irqEn)) := by
  unfold overflowFlag
  cases irqEn with
  | false => simp
  | true => simp [timerFlag_getLsbD]

theorem overflowFlag_timer (n : Fin 4) (irqEn : Bool) (t : Timer) (s : State) (m : Fin 4) :
    (overflowFlag n irqEn t s).timer m = if m = n then t else s.timer m := by
  rw [← State.timer_setTimer]
  cases irqEn <;> rfl

theorem overflowFlag_fifo (n : Fin 4) (irqEn : Bool) (t : Timer) (s : State) (f : FifoId) :
    (overflowFlag n irqEn t s).fifo f = s.fifo f := by
  cases irqEn <;> simp [overflowFlag]

theorem overflowEffects_timer (n : Fin 4) (s : State) (m : Fin 4) :
    (overflowEffects n s).timer m = if m = n then (s.timer n).overflowed else s.timer m := by
  have htimers : (overflowEffects n s).timers =
      (overflowFlag n (s.timer n).irqEn (s.timer n).overflowed s).timers := by
    rw [overflowEffects_eq, (overflowDrain_kept _ _ _).1, (overflowDrain_kept _ _ _).1]
    rfl
  rw [← overflowFlag_timer n (s.timer n).irqEn, State.timer, htimers]
  rfl

/-- TIMER_OVERFLOW up to its cascade is the overflow of timer `n` alone. -/
theorem overflowEffects_overflows (n : Fin 4) (s : State) : Overflows s (overflowEffects n s) (· == n) where
  timer m := by
    rw [overflowEffects_timer]
    by_cases hm : m = n
    · subst m
      simp [Timer.overflowed]
    · rw [if_neg hm, beq_false_of_ne hm]
      rfl
  flag m := by
    rw [overflowEffects_eq, (overflowDrain_kept _ _ _).2, (overflowDrain_kept _ _ _).2, overflowFlag_flags]
    by_cases hm : m = n
    · subst m; simp
    · have : m.val ≠ n.val := fun h => hm (Fin.ext h)
      simp [hm, this]
  fifo f := by
    rw [overflowEffects_eq]
    cases f <;> simp [overflowDrain_fifo, overflowFlag_fifo]

theorem TimerFrame.eq_of_fifos {s t : State} (h : TimerFrame s t) {a b : Fifo} (ha : t.fifoA = a) (hb : t.fifoB = b) :
    t = { s with
      timers := t.timers, irq := { s.irq with flags := t.irq.flags }, fifoA := a, fifoB := b, out := t.out } := by
  subst ha hb
  exact h

/-! ## The cascade -/

/-- An event that left timer `n` as `y`, with an overflow if `c`, and ran up the cascade from there: in it the timers of
`o` overflowed, no timer below `n` among them, and each timer above `n` that counts the overflows of the timer below it
took one increment for that timer's (R506). -/
structure Cascade (n : Fin 4) (y : Timer) (c : Bool) (s t : State) (o : Fin 4 → Bool) : Prop where
  overflows : Overflows s t o
  below : ∀ m < n, t.timer m = s.timer m ∧ o m = false
  here : t.timer n = y ∧ o n = c
  above : ∀ i : Fin 3, n ≤ i.castSucc →
    t.timer i.succ =
      (if o i.castSucc && (s.timer i.succ).chained then (s.timer i.succ).inc else s.timer i.succ) ∧
    o i.succ = (o i.castSucc && (s.timer i.succ).chained && (s.timer i.succ).full)

/-- Where only timer `n` changes, without an overflow, nothing cascades. -/
theorem Cascade.of_setTimer (n : Fin 4) (s : State) (c : Half) (p : BitVec 10) :
    Cascade n { s.timer n with counter := c, preAcc := p } false s
      (s.setTimer n { s.timer n with counter := c, preAcc := p }) fun _ => false where
  overflows := .setTimer s n c p
  below _ hm := ⟨State.timer_setTimer_other _ _ _ _ hm.ne, rfl⟩
  here := ⟨State.timer_setTimer_same _ _ _, rfl⟩
  above i hi := ⟨State.timer_setTimer_other _ _ _ _ (Fin.lt_of_le_of_lt hi i.castSucc_lt_succ).ne', rfl⟩

theorem Cascade.refl (n : Fin 4) (s : State) : Cascade n (s.timer n) false s s fun _ => false := by
  have h : Cascade n (s.timer n) false s (s.setTimer n (s.timer n)) _ :=
    .of_setTimer n s (s.timer n).counter (s.timer n).preAcc
  rwa [State.setTimer_timer] at h

theorem cascadeTo_last (inc : Fin 4 → State → State) (s : State) : cascadeTo inc (Fin.last 3) s = s := rfl

theorem cascadeTo_castSucc (inc : Fin 4 → State → State) (i : Fin 3) (s : State) :
    cascadeTo inc i.castSucc s = if (s.timer i.succ).chained then inc i.succ s else s := by
  unfold cascadeTo
  rw [dif_pos (show i.castSucc.val < 3 from i.isLt)]
  rfl

/-- The overflow of the last timer cascades nowhere (R505). -/
theorem overflowEffects_cascade_last (s : State) :
    Cascade (Fin.last 3) (s.timer (Fin.last 3)).overflowed true s (overflowEffects (Fin.last 3) s)
      (· == Fin.last 3) where
  overflows := overflowEffects_overflows _ s
  below m hm := ⟨by rw [overflowEffects_timer, if_neg hm.ne], beq_false_of_ne hm.ne⟩
  here := ⟨by rw [overflowEffects_timer, if_pos rfl], rfl⟩
  above i hi := absurd hi (Fin.not_le.mpr i.castSucc_lt_last)

theorem overflowEffects_timer_other {n m : Fin 4} (h : m ≠ n) (s : State) :
    (overflowEffects n s).timer m = s.timer m := by rw [overflowEffects_timer, if_neg h]

/-- The overflow of timer `i`, and after it the cascade from timer `i + 1` if that timer counts overflows. -/
theorem overflowEffects_cascade_castSucc {i : Fin 3} {s t : State} {o : Fin 4 → Bool}
    (h : Cascade i.succ (if (s.timer i.succ).chained then (s.timer i.succ).inc else s.timer i.succ)
      ((s.timer i.succ).chained && (s.timer i.succ).full) (overflowEffects i.castSucc s) t o) :
    Cascade i.castSucc (s.timer i.castSucc).overflowed true s t fun m => m == i.castSucc || o m where
  overflows := (overflowEffects_overflows _ s).trans h.overflows fun m hm => beq_false_of_ne fun he => by
    rw [he, (h.below _ i.castSucc_lt_succ).2] at hm
    cases hm
  below m hm := by
    obtain ⟨htimer, ho⟩ := h.below m (hm.trans i.castSucc_lt_succ)
    rw [htimer, overflowEffects_timer_other hm.ne, ho, beq_false_of_ne hm.ne]
    exact ⟨rfl, rfl⟩
  here := by
    obtain ⟨htimer, -⟩ := h.below _ i.castSucc_lt_succ
    rw [htimer, overflowEffects_timer, if_pos rfl, beq_self_eq_true, Bool.true_or]
    exact ⟨rfl, rfl⟩
  above j hj := by
    obtain rfl | hij := (Fin.castSucc_le_castSucc_iff.mp hj).eq_or_lt
    · obtain ⟨htimer, ho⟩ := h.here
      rw [htimer, ho, beq_self_eq_true, beq_false_of_ne i.castSucc_lt_succ.ne']
      exact ⟨rfl, rfl⟩
    · have hsucc : i.castSucc < j.succ := Fin.castSucc_lt_succ_iff.mpr hij.le
      obtain ⟨htimer, ho⟩ := h.above j (Fin.succ_le_castSucc_iff.mpr hij)
      rw [htimer, ho, overflowEffects_timer_other hsucc.ne', beq_false_of_ne hsucc.ne',
        beq_false_of_ne (Fin.castSucc_lt_castSucc_iff.mpr hij).ne']
      exact ⟨rfl, rfl⟩

/-- TIMER_INC cascades where it overflows (R504). -/
theorem timerInc_cascade_of_timerOverflow {n : Fin 4} {s : State}
    (h : ∃ o, Cascade n (s.timer n).overflowed true s (timerOverflow n s) o) :
    ∃ o, Cascade n (s.timer n).inc (s.timer n).full s (timerInc n s) o := by
  cases hfull : (s.timer n).full with
  | true => rwa [timerInc_of_full hfull, Timer.inc, hfull]
  | false =>
    rw [timerInc_of_not_full hfull, Timer.inc, hfull]
    exact ⟨_, .of_setTimer n s ((s.timer n).counter + 1) (s.timer n).preAcc⟩

/-- TIMER_OVERFLOW runs up the cascade (R505, R506), by induction from timer 3 down. -/
theorem timerOverflow_cascade (n : Fin 4) (s : State) :
    ∃ o, Cascade n (s.timer n).overflowed true s (timerOverflow n s) o := by
  induction n using Fin.reverseInduction generalizing s with
  | last =>
    rw [timerOverflow, cascadeTo_last]
    exact ⟨_, overflowEffects_cascade_last s⟩
  | cast i ih =>
    have hnext : ((overflowEffects i.castSucc s).timer i.succ) = s.timer i.succ :=
      overflowEffects_timer_other i.castSucc_lt_succ.ne' s
    rw [timerOverflow, cascadeTo_castSucc, hnext]
    cases hchained : (s.timer i.succ).chained with
    | true =>
      obtain ⟨o, h⟩ := timerInc_cascade_of_timerOverflow (ih (overflowEffects i.castSucc s))
      rw [hnext] at h
      exact ⟨_, overflowEffects_cascade_castSucc (by rwa [hchained])⟩
    | false =>
      have h := Cascade.refl i.succ (overflowEffects i.castSucc s)
      rw [hnext] at h
      exact ⟨_, overflowEffects_cascade_castSucc (by rwa [hchained])⟩

theorem timerInc_cascade (n : Fin 4) (s : State) :
    ∃ o, Cascade n (s.timer n).inc (s.timer n).full s (timerInc n s) o :=
  timerInc_cascade_of_timerOverflow (timerOverflow_cascade n s)

/-! ## TIMER_OVERFLOW in the spec's words -/

theorem overflowReaches_iff (s : State) (n m : Fin 4) :
    overflowReaches s n m = true ↔
      n ≤ m ∧ ∀ k, n < k → k ≤ m → (s.timer k).chained = true ∧ (s.timer k).full = true := by
  simp only [overflowReaches, Bool.and_eq_true, decide_eq_true_eq, List.all_eq_true, List.mem_finRange, true_imp_iff,
    Timer.chained, Timer.full_iff, and_imp, and_assoc]

theorem overflowReaches_self (s : State) (n : Fin 4) : overflowReaches s n n = true :=
  (overflowReaches_iff s n n).mpr ⟨le_rfl, fun _ hlt hle => absurd hle (Fin.not_le.mpr hlt)⟩

theorem overflowReaches_below (s : State) {n m : Fin 4} (h : m < n) : overflowReaches s n m = false :=
  Bool.eq_false_iff.mpr fun hr => absurd ((overflowReaches_iff s n m).mp hr).1 (Fin.not_le.mpr h)

/-- An overflow reaches the next timer from the one below it (R506). -/
theorem overflowReaches_succ (s : State) {n : Fin 4} {i : Fin 3} (h : n ≤ i.castSucc) :
    overflowReaches s n i.succ =
      (overflowReaches s n i.castSucc && (s.timer i.succ).chained && (s.timer i.succ).full) := by
  rw [Bool.eq_iff_iff, Bool.and_eq_true, Bool.and_eq_true, overflowReaches_iff, overflowReaches_iff]
  constructor
  · rintro ⟨-, hall⟩
    obtain ⟨hchained, hfull⟩ := hall i.succ (Fin.lt_of_le_of_lt h i.castSucc_lt_succ) le_rfl
    exact ⟨⟨⟨h, fun k hn hk => hall k hn (hk.trans i.castSucc_lt_succ.le)⟩, hchained⟩, hfull⟩
  · rintro ⟨⟨⟨-, hall⟩, hchained⟩, hfull⟩
    refine ⟨h.trans i.castSucc_lt_succ.le, fun k hn hk => ?_⟩
    obtain rfl | hlt := hk.eq_or_lt
    · exact ⟨hchained, hfull⟩
    · exact hall k hn (Fin.le_castSucc_iff.mpr hlt)

/-- A timer lies below timer `n`, is timer `n`, or is the next one after a timer from `n` on. -/
theorem below_here_or_above (n m : Fin 4) : m < n ∨ m = n ∨ ∃ i : Fin 3, m = i.succ ∧ n ≤ i.castSucc := by
  obtain hlt | heq | hgt := lt_trichotomy m n
  · exact .inl hlt
  · exact .inr (.inl heq)
  · obtain ⟨i, rfl⟩ := Fin.exists_succ_eq.mpr (Fin.ne_zero_of_lt hgt)
    exact .inr (.inr ⟨i, rfl, Fin.le_castSucc_iff.mpr hgt⟩)

/-- The timers that overflow in a cascade are those that the overflow of its first timer reaches. -/
theorem Cascade.eq_overflowReaches {n : Fin 4} {y : Timer} {s t : State} {o : Fin 4 → Bool}
    (h : Cascade n y true s t o) : o = overflowReaches s n := by
  funext m
  induction m using WellFoundedLT.induction with
  | ind m ih =>
    obtain hlt | rfl | ⟨i, rfl, hi⟩ := below_here_or_above n m
    · rw [(h.below m hlt).2, overflowReaches_below s hlt]
    · rw [h.here.2, overflowReaches_self]
    · rw [(h.above i hi).2, ih _ i.castSucc_lt_succ, overflowReaches_succ s hi]

theorem cascaded_below (s : State) {n m : Fin 4} (h : m < n) : cascaded s n m = s.timer m := by
  unfold cascaded
  rw [overflowReaches_below s h, if_neg Bool.false_ne_true, if_neg]
  rintro ⟨⟨k, hk, hreach⟩, -⟩
  rw [overflowReaches_below s (Fin.lt_def.mpr (by have := Fin.lt_def.mp h; omega))] at hreach
  cases hreach

theorem cascaded_self (s : State) (n : Fin 4) : cascaded s n n = (s.timer n).overflowed := by
  unfold cascaded
  rw [if_pos (overflowReaches_self s n)]
  rfl

/-- A timer above the first takes an increment from the timer below it (R506). -/
theorem cascaded_succ (s : State) {n : Fin 4} {i : Fin 3} (h : n ≤ i.castSucc) :
    cascaded s n i.succ =
      if overflowReaches s n i.castSucc && (s.timer i.succ).chained then (s.timer i.succ).inc else s.timer i.succ := by
  have hbelow : (∃ k : Fin 4, i.succ.val = k.val + 1 ∧ overflowReaches s n k = true) ↔
      overflowReaches s n i.castSucc = true := by
    refine ⟨fun ⟨k, hk, hreach⟩ => ?_, fun hreach => ⟨_, rfl, hreach⟩⟩
    rwa [show i.castSucc = k from Fin.ext (Nat.succ.inj hk)]
  have hcounts : ((∃ k : Fin 4, i.succ.val = k.val + 1 ∧ overflowReaches s n k = true) ∧
      (s.timer i.succ).enable = true ∧ (s.timer i.succ).cascade = true) ↔
      (overflowReaches s n i.castSucc && (s.timer i.succ).chained) = true := by
    rw [hbelow, Bool.and_eq_true, Timer.chained, Bool.and_eq_true]
  simp only [cascaded, hcounts, overflowReaches_succ s h]
  cases overflowReaches s n i.castSucc && (s.timer i.succ).chained with
  | false => rfl
  | true => rfl

theorem Cascade.timer {n : Fin 4} {s t : State} {o : Fin 4 → Bool}
    (h : Cascade n (s.timer n).overflowed true s t o) (m : Fin 4) : t.timer m = cascaded s n m := by
  obtain hlt | rfl | ⟨i, rfl, hi⟩ := below_here_or_above n m
  · rw [(h.below m hlt).1, cascaded_below s hlt]
  · rw [h.here.1, cascaded_self]
  · rw [(h.above i hi).1, cascaded_succ s hi, h.eq_overflowReaches]

/-- Settles O16: the cascade of `timerOverflow_cascade`, with `overflowReaches` as the timers that overflow. -/
theorem timerOverflowReloadsFlagsDrainsAndCascades : Obligations.TimerOverflowReloadsFlagsDrainsAndCascades := by
  intro n s
  obtain ⟨o, h⟩ := timerOverflow_cascade n s
  have hframe : TimerFrame s (timerOverflow n s) := timerOverflow_induct (TimerFrame.closed s) n s (.refl s)
  have hfifo (f : FifoId) : (timerOverflow n s).fifo f = drainedBy s n (s.fifo f) := by
    rw [h.overflows.fifo f, h.eq_overflowReaches]
    rfl
  refine ⟨timerOverflow n s, rfl, ?_, h.timer, h.here.1, fun m => ?_, fun b hb => ?_, ?_⟩
  · exact hframe.eq_of_fifos (hfifo .a) (hfifo .b)
  · rw [h.overflows.flag m, h.eq_overflowReaches]
  · exact timerOverflow_induct (otherFlag_closed s hb) n s rfl
  · exact timerOverflow_induct (RequestsSent.closed s) n s (.refl s)

end Sys2Proof.Machine
end

section
/-! PROOFS. TIMER_TICK (R503): its four rounds, each a cascade from its timer, and the closed form of a batch (R507). -/

namespace Sys2Proof.Machine

open Sys2Proof.Claims (divTable drainedInTick timerTicks)

/-! ## One round -/

/-- A timer after its own round of a tick (R503). -/
def Timer.ticked (n : Fin 4) (t : Timer) : Timer :=
  if countsTicks n t then
    if divisor t.prescaler ≤ t.preAcc.toNat + 1 then { t with preAcc := 0 }.inc else { t with preAcc := t.preAcc + 1 }
  else t

/-- A timer that overflows in its own round of a tick. -/
def Timer.tickOverflows (n : Fin 4) (t : Timer) : Bool :=
  countsTicks n t && decide (divisor t.prescaler ≤ t.preAcc.toNat + 1) && t.full

theorem countsTicks_of_chained {i : Fin 3} {t : Timer} (h : t.chained = true) : countsTicks i.succ t = false := by
  have hcascade : t.cascade = true := (Bool.and_eq_true _ _ ▸ h : _ ∧ _).2
  simp [countsTicks, hcascade]

theorem countsTicks_iff {n : Fin 4} {t : Timer} :
    countsTicks n t = true ↔ t.enable = true ∧ (n = 0 ∨ t.cascade = false) := by
  simp only [countsTicks, Bool.and_eq_true, Bool.or_eq_true, beq_iff_eq, Bool.not_eq_true', Fin.ext_iff]
  rfl

/-- A timer that counts ticks counts no overflows (R503, D18). -/
theorem free_of_counts {m : Fin 4} {x : Timer} (h : countsTicks m x = true) : m = 0 ∨ x.chained = false := by
  induction m using Fin.cases with
  | zero => exact .inl rfl
  | succ i =>
    refine .inr (Bool.eq_false_iff.mpr fun hc => ?_)
    rw [countsTicks_of_chained hc] at h
    cases h

/-- A timer that does not count ticks sits its round out. -/
theorem Timer.ticked_of_not_counts {n : Fin 4} {t : Timer} (h : countsTicks n t = false) :
    t.ticked n = t ∧ t.tickOverflows n = false := by
  simp [Timer.ticked, Timer.tickOverflows, h]

/-- The timer's own accumulator does not matter above it. -/
theorem Cascade.of_preAcc {n : Fin 4} {p : BitVec 10} {y : Timer} {c : Bool} {s t : State} {o : Fin 4 → Bool}
    (h : Cascade n y c (s.setTimer n { s.timer n with preAcc := p }) t o) : Cascade n y c s t o where
  overflows := by
    simpa using (Overflows.setTimer s n (s.timer n).counter p).trans h.overflows fun _ _ => rfl
  below m hm := by
    rw [← State.timer_setTimer_other s m n _ hm.ne]
    exact h.below m hm
  here := h.here
  above i hi := by
    have hne : i.succ ≠ n := (Fin.lt_of_le_of_lt hi i.castSucc_lt_succ).ne'
    have := h.above i hi
    rwa [State.timer_setTimer_other _ _ _ _ hne] at this

/-- A round of a tick runs up the cascade from its timer. -/
theorem timerTickOne_cascade (n : Fin 4) (s : State) :
    ∃ o, Cascade n ((s.timer n).ticked n) ((s.timer n).tickOverflows n) s (timerTickOne n s) o := by
  unfold timerTickOne Timer.ticked Timer.tickOverflows
  dsimp only
  cases countsTicks n (s.timer n) with
  | false => exact ⟨_, .refl n s⟩
  | true =>
    by_cases hfires : divisor (s.timer n).prescaler ≤ (s.timer n).preAcc.toNat + 1
    · obtain ⟨o, h⟩ := timerInc_cascade n (s.setTimer n { s.timer n with preAcc := 0 })
      simp only [State.timer_setTimer_same] at h
      simp only [hfires, decide_true, ↓reduceIte, Bool.true_and]
      exact ⟨o, h.of_preAcc⟩
    · simp only [hfires, decide_false, ↓reduceIte, Bool.and_false, Bool.false_and]
      exact ⟨_, .of_setTimer n s (s.timer n).counter ((s.timer n).preAcc + 1)⟩

/-! ## Four rounds -/

/-- The timers once the rounds below `k` are done, in which the timers of `o` overflowed: a timer that counts no
overflows has had its round or not, and one that does took an increment if the timer below it overflowed (R503,
R506). -/
structure TickedUpTo (k : Nat) (s t : State) (o : Fin 4 → Bool) : Prop where
  overflows : Overflows s t o
  free : ∀ m : Fin 4, m = 0 ∨ (s.timer m).chained = false →
    t.timer m = (if m.val < k then (s.timer m).ticked m else s.timer m) ∧
    o m = (decide (m.val < k) && (s.timer m).tickOverflows m)
  linked : ∀ i : Fin 3, (s.timer i.succ).chained = true →
    t.timer i.succ = (if o i.castSucc then (s.timer i.succ).inc else s.timer i.succ) ∧
    o i.succ = (o i.castSucc && (s.timer i.succ).full)

theorem TickedUpTo.start (s : State) : TickedUpTo 0 s s fun _ => false :=
  ⟨.refl s, fun _ _ => ⟨rfl, rfl⟩, fun _ _ => ⟨rfl, rfl⟩⟩

section Round

variable {k : Fin 4} {y : Timer} {s t u : State} {o o' : Fin 4 → Bool}

/-- No timer overflows in two rounds of one tick (R509 e). -/
theorem TickedUpTo.disjoint (h : TickedUpTo k.val s t o)
    (c : Cascade k ((t.timer k).ticked k) ((t.timer k).tickOverflows k) t u o') (m : Fin 4) (hm : o' m = true) :
    o m = false := by
  induction m using WellFoundedLT.induction with
  | ind m ih =>
    obtain hlt | rfl | ⟨i, rfl, hi⟩ := below_here_or_above k m
    · rw [(c.below m hlt).2] at hm
      cases hm
    · have hcounts : countsTicks m (t.timer m) = true := by
        rw [c.here.2, Timer.tickOverflows, Bool.and_assoc, Bool.and_eq_true] at hm
        exact hm.1
      have hfree := free_of_counts hcounts
      rw [h.overflows.chained] at hfree
      rw [(h.free m hfree).2, decide_eq_false (lt_irrefl _), Bool.false_and]
    · obtain ⟨-, ho⟩ := c.above i hi
      rw [hm, eq_comm, Bool.and_eq_true, Bool.and_eq_true, h.overflows.chained] at ho
      obtain ⟨⟨hprev, hchained⟩, -⟩ := ho
      rw [(h.linked i hchained).2, ih _ i.castSucc_lt_succ hprev, Bool.false_and]

/-- A round keeps the form of the timers. -/
theorem TickedUpTo.round (h : TickedUpTo k.val s t o)
    (c : Cascade k ((t.timer k).ticked k) ((t.timer k).tickOverflows k) t u o') :
    TickedUpTo (k.val + 1) s u fun m => o m || o' m where
  overflows := h.overflows.trans c.overflows (h.disjoint c)
  free m hm := by
    obtain ⟨htimer, ho⟩ := h.free m hm
    obtain hlt | rfl | ⟨i, rfl, hi⟩ := below_here_or_above k m
    · have hlt' : m.val < k.val := hlt
      rw [(c.below m hlt).1, (c.below m hlt).2, htimer, ho]
      simp [hlt', Nat.lt_succ_of_lt hlt']
    · rw [c.here.1, c.here.2, htimer, ho]
      simp
    · have hchained : (t.timer i.succ).chained = false := by
        rw [h.overflows.chained]
        exact hm.resolve_left (Fin.succ_ne_zero i)
      have hlate : ¬ i.succ.val < k.val + 1 := Nat.not_lt.mpr (Nat.succ_le_succ (Fin.le_def.mp hi))
      have hlate' : ¬ i.succ.val < k.val := mt Nat.lt_succ_of_lt hlate
      rw [(c.above i hi).1, (c.above i hi).2, hchained, htimer, ho, if_neg hlate, if_neg hlate', decide_eq_false hlate,
        decide_eq_false hlate']
      simp
  linked i hi := by
    obtain ⟨htimer, ho⟩ := h.linked i hi
    have hchained : (t.timer i.succ).chained = true := by rw [h.overflows.chained, hi]
    have hearly (hlt : i.castSucc < k) : o' i.castSucc = false := (c.below _ hlt).2
    obtain hlt | heq | ⟨j, hj, hle⟩ := below_here_or_above k i.succ
    · rw [(c.below _ hlt).1, (c.below _ hlt).2, hearly (i.castSucc_lt_succ.trans hlt), htimer, ho]
      simp
    · obtain ⟨hticked, hover⟩ := Timer.ticked_of_not_counts (countsTicks_of_chained (i := i) hchained)
      subst heq
      rw [c.here.1, c.here.2, hticked, hover, hearly i.castSucc_lt_succ, htimer, ho]
      simp
    · obtain rfl := Fin.succ_inj.mp hj
      rw [(c.above i hle).1, (c.above i hle).2, hchained, htimer, ho]
      cases hprev : o' i.castSucc with
      | false => simp
      | true => simp [h.disjoint c _ hprev]

end Round

/-- What a tick does to the timers: every timer had its round. -/
theorem timerTick_ticked (s : State) : ∃ o, TickedUpTo 4 s (timerTick s) o := by
  obtain ⟨_, c0⟩ := timerTickOne_cascade 0 s
  obtain ⟨_, c1⟩ := timerTickOne_cascade 1 (timerTickOne 0 s)
  obtain ⟨_, c2⟩ := timerTickOne_cascade 2 (timerTickOne 1 (timerTickOne 0 s))
  obtain ⟨_, c3⟩ := timerTickOne_cascade 3 (timerTickOne 2 (timerTickOne 1 (timerTickOne 0 s)))
  exact ⟨_, ((((TickedUpTo.start s).round c0).round c1).round c2).round c3⟩

/-! ## TIMER_TICK in the spec's words -/

theorem divisor_eq_divTable (p : BitVec 2) : divisor p = divTable.getD p.toNat 0 := by revert p; decide

theorem Timer.inc_preAcc (t : Timer) : t.inc.preAcc = t.preAcc := by
  unfold Timer.inc
  split <;> rfl

theorem Timer.inc_eq (t : Timer) :
    t.inc = if t.counter = 0xFFFF then { t with counter := t.reload, overflows := t.overflows + 1 }
      else { t with counter := t.counter + 1 } := if_congr t.full_iff rfl rfl

/-- A stopped timer counts nothing. -/
theorem Timer.ticked_of_stopped {n : Fin 4} {t : Timer} (h : t.enable = false) : t.ticked n = t :=
  (Timer.ticked_of_not_counts (by simp [countsTicks, h])).1

/-- A running prescaled timer, below and at the divisor (R503). -/
theorem Timer.ticked_of_counts {n : Fin 4} {t : Timer} (h : countsTicks n t = true) :
    t.ticked n = if t.preAcc.toNat + 1 < divTable.getD t.prescaler.toNat 0 then { t with preAcc := t.preAcc + 1 }
      else { t with preAcc := 0 }.inc := by
  rw [Timer.ticked, if_pos h, divisor_eq_divTable, ← ite_not]
  exact if_congr Nat.not_le rfl rfl

namespace TickedUpTo

variable {s t : State} {o : Fin 4 → Bool}

theorem timer_of_free (h : TickedUpTo 4 s t o) {m : Fin 4} (hm : m = 0 ∨ (s.timer m).chained = false) :
    t.timer m = (s.timer m).ticked m := by rw [(h.free m hm).1, if_pos m.isLt]

theorem timer_of_stopped (h : TickedUpTo 4 s t o) {m : Fin 4} (hm : (s.timer m).enable = false) :
    t.timer m = s.timer m := by
  rw [h.timer_of_free (.inr (by rw [Timer.chained, hm, Bool.false_and])), Timer.ticked_of_stopped hm]

/-- A cascading timer's accumulator stays, whether the timer runs or not. -/
theorem preAcc_of_cascade (h : TickedUpTo 4 s t o) {m : Fin 4} (hm : m ≠ 0) (hcascade : (s.timer m).cascade = true) :
    (t.timer m).preAcc = (s.timer m).preAcc := by
  cases henable : (s.timer m).enable with
  | false => rw [h.timer_of_stopped henable]
  | true =>
    obtain ⟨i, rfl⟩ := Fin.exists_succ_eq.mpr hm
    rw [(h.linked i (by rw [Timer.chained, henable, hcascade]; rfl)).1]
    split
    · exact Timer.inc_preAcc _
    · rfl

/-- The timers of `o` are those whose overflow count changed. -/
theorem overflows_eq_iff (h : TickedUpTo 4 s t o) (m : Fin 4) :
    (t.timer m).overflows = (s.timer m).overflows ↔ ¬ o m = true := by
  rw [h.overflows.overflows]
  cases o m <;> simp

theorem overflows_ne (h : TickedUpTo 4 s t o) (m : Fin 4) :
    decide ((t.timer m).overflows ≠ (s.timer m).overflows) = o m := by
  rw [Bool.eq_iff_iff, decide_eq_true_eq, ne_eq, h.overflows_eq_iff, not_not]

theorem fifo (h : TickedUpTo 4 s t o) (f : FifoId) : t.fifo f = drainedInTick s t (s.fifo f) := by
  rw [h.overflows.fifo f, drainedIf, ← ite_not]
  exact if_congr (h.overflows_eq_iff _).symm rfl rfl

/-- A running cascading timer counts the overflow of the timer below it, if there was one (R506). -/
theorem timer_of_linked (h : TickedUpTo 4 s t o) {i : Fin 3} (hi : (s.timer i.succ).chained = true) :
    ((t.timer i.castSucc).overflows = (s.timer i.castSucc).overflows ∧ t.timer i.succ = s.timer i.succ) ∨
    ((t.timer i.castSucc).overflows = (s.timer i.castSucc).overflows + 1 ∧ t.timer i.succ = (s.timer i.succ).inc) := by
  rw [(h.linked i hi).1, h.overflows.overflows]
  cases o i.castSucc with
  | false => exact .inl ⟨rfl, rfl⟩
  | true => exact .inr ⟨rfl, rfl⟩

end TickedUpTo

/-- Settles O17: `timerTick_ticked`, clause by clause, with the frame and the requests of every timer event. -/
theorem timerTickStopsAndCascades : Obligations.TimerTickStopsAndCascades := by
  intro s
  obtain ⟨o, h⟩ := timerTick_ticked s
  refine ⟨timerTick s, rfl, (timerTick_frame s).eq_of_fifos (h.fifo .a) (h.fifo .b), fun m => ⟨h.timer_of_stopped,
    h.preAcc_of_cascade, fun henable hm => ?_, ?_, ?_, ?_⟩, fun b hb => timerTick_induct (otherFlag_closed s hb) s rfl,
    timerTick_induct (RequestsSent.closed s) s (.refl s), fun n m hnm henable hcascade => ?_⟩
  · have hcounts := countsTicks_iff.mpr ⟨henable, hm⟩
    rw [h.timer_of_free (free_of_counts hcounts), Timer.ticked_of_counts hcounts, Timer.inc_eq]
    split_ifs <;> rfl
  · rw [h.overflows.overflows]
    cases o m with
    | false => exact .inl rfl
    | true => exact .inr rfl
  · rw [h.overflows.timer m]
  · rw [h.overflows.flag m, h.overflows_ne m]
  · obtain ⟨i, rfl⟩ := Fin.exists_succ_eq.mpr (show m ≠ 0 from fun h0 => by simp [h0] at hnm)
    obtain rfl : n = i.castSucc := Fin.ext (Nat.succ.inj hnm).symm
    have hchained : (s.timer i.succ).chained = true := by rw [Timer.chained, henable, hcascade]; rfl
    refine (h.timer_of_linked hchained).imp_right fun ⟨hover, htimer⟩ => ⟨hover, ?_⟩
    rw [htimer, Timer.inc_eq]
    split_ifs <;> rfl

end Sys2Proof.Machine
end

section
/-! PROOFS. The closed form of k TIMER_TICKs (R507): the accumulator counts ticks modulo the divisor, and each time it
comes round the counter takes an increment. -/

namespace Sys2Proof.Machine

open Sys2Proof.Claims (divTable timerTicks)

/-! ## A timer that takes k ticks -/

/-- Quotient and remainder of the next number. -/
theorem succ_div_mod {d : Nat} (hd : 0 < d) (a : Nat) :
    if a % d + 1 < d then (a + 1) / d = a / d ∧ (a + 1) % d = a % d + 1
    else (a + 1) / d = a / d + 1 ∧ (a + 1) % d = 0 := by
  have ha := Nat.mod_add_div a d
  have hlt := Nat.mod_lt a hd
  split
  · rw [Nat.div_mod_unique hd]
    omega
  · rw [Nat.div_mod_unique hd, Nat.mul_succ]
    omega

theorem Timer.full_iff_toNat (t : Timer) : t.full = true ↔ t.counter.toNat = 0xFFFF := by
  rw [Timer.full_iff, ← BitVec.toNat_inj]
  rfl

theorem Timer.inc_of_full {t : Timer} (h : t.counter.toNat = 0xFFFF) : t.inc = t.overflowed :=
  if_pos (t.full_iff_toNat.mpr h)

theorem Timer.inc_of_not_full {t : Timer} (h : t.counter.toNat < 0xFFFF) :
    t.inc = { t with counter := t.counter + 1 } ∧ (t.counter + 1).toNat = t.counter.toNat + 1 := by
  refine ⟨if_neg fun hf => absurd (t.full_iff_toNat.mp hf) h.ne, ?_⟩
  rw [BitVec.toNat_add, Nat.mod_eq_of_lt (by change _ + 1 < _; omega)]
  rfl

/-- The counter and the overflows of `u` are those of `t` after `i` increments (R507). -/
def Timer.Counted (t : Timer) (i : Nat) (u : Timer) : Prop :=
  (i < 0x10000 - t.counter.toNat → u.overflows = t.overflows ∧ u.counter.toNat = t.counter.toNat + i) ∧
  (0x10000 - t.counter.toNat ≤ i →
    u.overflows = t.overflows + 1 + (i - (0x10000 - t.counter.toNat)) / (0x10000 - t.reload.toNat) ∧
    u.counter.toNat = t.reload.toNat + (i - (0x10000 - t.counter.toNat)) % (0x10000 - t.reload.toNat))

theorem Timer.Counted.inc {t u : Timer} {i : Nat} (h : t.Counted i u) (hreload : u.reload = t.reload) :
    t.Counted (i + 1) u.inc := by
  obtain ⟨hfirst, hlater⟩ := h
  have hc := t.counter.isLt
  have hr := t.reload.isLt
  obtain hlt | heq | hgt := lt_trichotomy (i + 1) (0x10000 - t.counter.toNat)
  · obtain ⟨hover, hcount⟩ := hfirst (by omega)
    obtain ⟨hinc, hsucc⟩ := Timer.inc_of_not_full (t := u) (by omega)
    refine ⟨fun _ => ?_, fun h => absurd h (by omega)⟩
    rw [hinc]
    exact ⟨hover, hsucc.trans (by omega)⟩
  · obtain ⟨hover, hcount⟩ := hfirst (by omega)
    refine ⟨fun h => absurd h (by omega), fun _ => ?_⟩
    rw [Timer.inc_of_full (by omega), ← heq, Nat.sub_self, Nat.zero_div, Nat.zero_mod]
    exact ⟨congrArg (· + 1) hover, congrArg BitVec.toNat hreload⟩
  · obtain ⟨hover, hcount⟩ := hlater (by omega)
    refine ⟨fun h => absurd h (by omega), fun _ => ?_⟩
    have hnext := succ_div_mod (d := 0x10000 - t.reload.toNat) (by omega) (i - (0x10000 - t.counter.toNat))
    rw [Nat.succ_sub (by omega)]
    split at hnext
    · obtain ⟨hdiv, hmod⟩ := hnext
      obtain ⟨hinc, hsucc⟩ := Timer.inc_of_not_full (t := u) (by omega)
      rw [hinc, hdiv, hmod]
      exact ⟨hover, hsucc.trans (by omega)⟩
    · obtain ⟨hdiv, hmod⟩ := hnext
      have hlt := Nat.mod_lt (i - (0x10000 - t.counter.toNat)) (show 0 < 0x10000 - t.reload.toNat by omega)
      rw [Timer.inc_of_full (by omega), hdiv, hmod]
      exact ⟨congrArg (· + 1) hover, congrArg BitVec.toNat hreload⟩

/-- The timer `u` is `t` after `k` ticks (R507). -/
structure Timer.Batched (k : Nat) (t u : Timer) : Prop where
  kept : u = { t with counter := u.counter, preAcc := u.preAcc, overflows := u.overflows }
  preAcc : u.preAcc.toNat = (t.preAcc.toNat + k) % divTable.getD t.prescaler.toNat 0
  counted : t.Counted ((t.preAcc.toNat + k) / divTable.getD t.prescaler.toNat 0) u

theorem Timer.Batched.start {t : Timer} (h : t.preAcc.toNat < divTable.getD t.prescaler.toNat 0) : t.Batched 0 t where
  kept := rfl
  preAcc := (Nat.mod_eq_of_lt h).symm
  counted := by
    rw [Nat.add_zero, Nat.div_eq_of_lt h]
    have := t.counter.isLt
    exact ⟨fun _ => ⟨rfl, rfl⟩, fun h => absurd h (by omega)⟩

theorem divTable_bounds (p : BitVec 2) : 0 < divTable.getD p.toNat 0 ∧ divTable.getD p.toNat 0 ≤ 1024 := by
  revert p; decide

theorem Timer.inc_kept (t : Timer) :
    t.inc = { t with counter := t.inc.counter, overflows := t.inc.overflows } := by
  unfold Timer.inc
  split <;> rfl

/-- One more tick of a running prescaled timer: the accumulator moves, or it comes round and the counter moves. -/
theorem Timer.Batched.ticked {n : Fin 4} {k : Nat} {t u : Timer} (h : t.Batched k u)
    (hcounts : countsTicks n t = true) :
    t.Batched (k + 1) (u.ticked n) := by
  obtain ⟨hkept, hpre, hcounted⟩ := h
  have hcounts' : countsTicks n u = true := by rwa [hkept]
  have hprescaler : u.prescaler = t.prescaler := by rw [hkept]
  obtain ⟨hpos, hle⟩ := divTable_bounds t.prescaler
  have hnext := succ_div_mod hpos (t.preAcc.toNat + k)
  rw [Timer.ticked_of_counts hcounts']
  split at hnext
  · obtain ⟨hdiv, hmod⟩ := hnext
    rw [if_pos (by rwa [hprescaler, hpre])]
    refine ⟨by rw [hkept], ?_, ?_⟩
    · change (u.preAcc + 1).toNat = (t.preAcc.toNat + k + 1) % _
      rw [hmod, ← hpre, BitVec.toNat_add, Nat.mod_eq_of_lt (by rw [hpre]; change _ + 1 < 1024; omega)]
      rfl
    · rw [← Nat.add_assoc, hdiv]
      exact hcounted
  · obtain ⟨hdiv, hmod⟩ := hnext
    rw [if_neg (by rwa [hprescaler, hpre])]
    refine ⟨?_, ?_, ?_⟩
    · rw [Timer.inc_kept, hkept]
    · rw [Timer.inc_preAcc, ← Nat.add_assoc, hmod]
      rfl
    · rw [← Nat.add_assoc, hdiv]
      exact Timer.Counted.inc (u := { u with preAcc := 0 }) hcounted (by rw [hkept])

/-! ## The block under k TIMER_TICKs -/

/-- A timer that counts no overflows takes its own round of each tick, and nothing else. -/
theorem timerTick_timer {s : State} {n : Fin 4} (h : n = 0 ∨ (s.timer n).chained = false) :
    (timerTick s).timer n = (s.timer n).ticked n := by
  obtain ⟨o, hticked⟩ := timerTick_ticked s
  exact hticked.timer_of_free h

theorem timerTicks_succ {k : Nat} {s t : State} (h : timerTicks k s = .next t) :
    timerTicks (k + 1) s = .next (timerTick t) := by
  induction k generalizing s with
  | zero => cases h; rfl
  | succ k ih => exact ih (s := timerTick s) h

theorem timerTicks_batched {n : Fin 4} {s : State} (hcounts : countsTicks n (s.timer n) = true)
    (hpre : (s.timer n).preAcc.toNat < divTable.getD (s.timer n).prescaler.toNat 0) (k : Nat) :
    ∃ t, timerTicks k s = .next t ∧ (s.timer n).Batched k (t.timer n) := by
  induction k with
  | zero => exact ⟨s, rfl, .start hpre⟩
  | succ k ih =>
    obtain ⟨t, ht, hbatched⟩ := ih
    have hcounts' : countsTicks n (t.timer n) = true := by rwa [hbatched.kept]
    refine ⟨_, timerTicks_succ ht, ?_⟩
    rw [timerTick_timer (free_of_counts hcounts')]
    exact hbatched.ticked hcounts

/-- Settles O18: `timerTicks_batched`. -/
theorem batchedTimerTicksFollowTheClosedForm : Obligations.BatchedTimerTicksFollowTheClosedForm := by
  intro n k s henable hn hpre
  obtain ⟨t, ht, -, hacc, hfirst, hlater⟩ := timerTicks_batched (countsTicks_iff.mpr ⟨henable, hn⟩) hpre k
  exact ⟨t, ht, hacc, hfirst, hlater⟩

end Sys2Proof.Machine
end

section
/-! PROOFS. The register writes of the channels and of the sound control (R601-R611, R629-R631, R704-R707): what each
write leaves unchanged, and what a trigger, a length load, a wave RAM write and a switch-off do. -/

namespace Sys2Proof.Machine

open Sys2Proof.Claims (triggers writeFootprint writtenFreq)

/-! ## Control registers, with a trigger and without one (R603, R605, R608, R610) -/

/-- The freq and len_en fields of a square channel, taken from a value of its control register (R603, R605). -/
def Square.withControl (c : Square) (v : Half) : Square := { c with freq := v.extractLsb' 0 11, lenEn := v.getLsbD 14 }

/-- The same of channel 3 (R608). -/
def Wave.withControl (c : Wave) (v : Half) : Wave := { c with freq := v.extractLsb' 0 11, lenEn := v.getLsbD 14 }

/-- The fields of SOUND4CNT_H, taken from a value of the register (R610). -/
def Noise.withControl (c : Noise) (v : Half) : Noise :=
  { c with r := v.extractLsb' 0 3, width := v.getLsbD 3, s := v.extractLsb' 4 4, lenEn := v.getLsbD 14 }

/-- The value that a write leaves in a frequency and control register (R205, R603). -/
def writtenControl (be : BitVec 2) (data : Half) (lenEn : Bool) (freq : BitVec 11) : Half :=
  merge be (packControl lenEn freq) data &&& 0x47FF

/-- The value that a write leaves in SOUND4CNT_H (R205, R610). -/
def Noise.writtenControl (c : Noise) (be : BitVec 2) (data : Half) : Half := merge be c.packControl data &&& 0x40FF

theorem Square.writeControl_eq (c : Square) (be : BitVec 2) (data : Half) :
    c.writeControl be data =
      if triggers be data then (c.withControl (writtenControl be data c.lenEn c.freq)).trigger
      else c.withControl (writtenControl be data c.lenEn c.freq) := rfl

theorem Wave.writeControl_eq (c : Wave) (be : BitVec 2) (data : Half) :
    c.writeControl be data =
      if triggers be data then (c.withControl (writtenControl be data c.lenEn c.freq)).trigger
      else c.withControl (writtenControl be data c.lenEn c.freq) := rfl

theorem Noise.writeControl_eq (c : Noise) (be : BitVec 2) (data : Half) :
    c.writeControl be data =
      if triggers be data then (c.withControl (c.writtenControl be data)).trigger
      else c.withControl (c.writtenControl be data) := rfl

/-! ## What a write leaves unchanged (R205) -/

theorem Wave.writeRam_eq (c : Wave) (k : Fin 8) (be : BitVec 2) (data : Half) :
    c.writeRam k be data = { c with ram := (c.writeRam k be data).ram } := by
  unfold Wave.writeRam
  split_ifs <;> rfl

/-- A write of a FIFO register changes the queue only (R701). -/
theorem Fifo.write_eq (q : Fifo) (be : BitVec 2) (data : Half) :
    q.write be data = { q with queue := (q.write be data).queue } := by
  unfold Fifo.write
  generalize laneBytes be data = bytes
  induction bytes generalizing q with
  | nil => rfl
  | cons b bs ih =>
    rw [List.foldl_cons, ih, q.push_eq b]

/-- SOUNDCNT_X sets master_en from the low lane, and its 1 to 0 transition disables the channels (R707). -/
theorem writeSoundcntX_eq (be : BitVec 2) (data : Half) (s : State) :
    writeSoundcntX be data s =
      let off := be.getLsbD 0 && s.apu.masterEn && !data.getLsbD 7
      { s with
        apu := { s.apu with masterEn := if be.getLsbD 0 then data.getLsbD 7 else s.apu.masterEn }
        ch1 := { s.ch1 with enabled := s.ch1.enabled && !off }
        ch2 := { s.ch2 with enabled := s.ch2.enabled && !off }
        wave := { s.wave with enabled := s.wave.enabled && !off }
        noise := { s.noise with enabled := s.noise.enabled && !off } } := by
  unfold writeSoundcntX laneLo
  cases be.getLsbD 0
  · simp
  · simp only [if_true, Bool.true_and]
    cases s.apu.masterEn && !data.getLsbD 7
    · simp
    · simp [disableChannels]

theorem Timer.writeControl_kept (t : Timer) (be : BitVec 2) (data : Half) :
    t.writeControl be data = { t.writeControl be data with reload := t.reload, overflows := t.overflows } := by
  rw [Timer.writeControl_eq]
  split <;> rfl

/-- A register write changes only the fields that its rule lists (R601-R611, R705-R708, R501, R502, R417-R421). -/
theorem writeReg_footprint (be : BitVec 2) (data : Half) (r : Reg) (s : State) :
    writeReg be data r s = writeFootprint be data r s (writeReg be data r s) := by
  cases r with
  | sound1cntX =>
    simp only [writeReg, writeSound1cntX, Square.writeControl_eq, writeFootprint]
    by_cases htrigger : triggers be data = true
    · simp only [htrigger, if_true]
      rw [show strobe be data 15 = true from htrigger]
      rfl
    · simp only [htrigger]
      rw [if_neg (show ¬ strobe be data 15 = true from htrigger)]
      rfl
  | sound2cntH =>
    simp only [writeReg, writeSound2cntH, Square.writeControl_eq, writeFootprint]
    split <;> rfl
  | sound3cntX =>
    simp only [writeReg, writeSound3cntX, Wave.writeControl_eq, writeFootprint]
    split <;> rfl
  | sound4cntH =>
    simp only [writeReg, writeSound4cntH, Noise.writeControl_eq, writeFootprint]
    split <;> rfl
  | soundcntX =>
    simp only [writeReg, writeSoundcntX_eq, writeFootprint]
  | fifoA h => exact congrArg (fun q => { s with fifoA := q }) (s.fifoA.write_eq be data)
  | fifoB h => exact congrArg (fun q => { s with fifoB := q }) (s.fifoB.write_eq be data)
  | waveRam k => exact congrArg (fun w => { s with wave := w }) (s.wave.writeRam_eq k be data)
  | tmcntL n => simp only [writeReg, writeTmcntL, writeFootprint, State.timer_setTimer_same]
  | tmcntH n =>
    simp only [writeReg, writeTmcntH, writeFootprint, State.timer_setTimer_same]
    exact congrArg (s.setTimer n) ((s.timer n).writeControl_kept be data)
  | ime =>
    simp only [writeReg, writeIme, writeFootprint]
    split <;> rfl
  | haltcnt =>
    simp only [writeReg, writeHaltcnt, cpuStop, cpuHalt, State.leaveRunning, writeFootprint]
    split_ifs <;> rfl
  | _ => rfl

/-- Settles O9: the write row performs the register's write, and `writeReg_footprint`. -/
theorem registerWritesChangeOnlyTheirFields : Obligations.RegisterWritesChangeOnlyTheirFields :=
  fun r be data s => ⟨_, exec_writeRow be data r s, writeReg_footprint be data r s⟩

/-! ## Periods (R600) -/

theorem squarePeriod_toNat (freq : BitVec 11) : (squarePeriod freq).toNat = (2048 - freq.toNat) * 4 := by
  rw [squarePeriod, BitVec.toNat_ofNat, Nat.mod_eq_of_lt (by omega)]

theorem wavePeriod_toNat (freq : BitVec 11) : (wavePeriod freq).toNat = (2048 - freq.toNat) * 2 := by
  rw [wavePeriod, BitVec.toNat_ofNat, Nat.mod_eq_of_lt (by omega)]

/-- The table NDIV by its formula (R600). -/
theorem noiseDivisor_eq (r : BitVec 3) : noiseDivisor r = if r = 0 then 8 else 16 * r.toNat := by
  revert r
  decide

theorem noisePeriod_toNat (r : BitVec 3) (s : BitVec 4) :
    (noisePeriod r s).toNat = (if r = 0 then 8 else 16 * r.toNat) * 2 ^ s.toNat := by
  have hdivisor : noiseDivisor r ≤ 112 := by revert r; decide
  have hshift : 2 ^ s.toNat ≤ 2 ^ 15 := Nat.pow_le_pow_right (by decide) (by omega)
  have hperiod : noiseDivisor r * 2 ^ s.toNat < 2 ^ 22 :=
    calc noiseDivisor r * 2 ^ s.toNat ≤ 112 * 2 ^ 15 := Nat.mul_le_mul hdivisor hshift
      _ < 2 ^ 22 := by decide
  rw [noisePeriod, BitVec.toNat_ofNat, Nat.mod_eq_of_lt hperiod, noiseDivisor_eq]

/-! ## Triggers (R629-R631) -/

/-- A trigger write enables the high lane. -/
theorem highLane_of_triggers {be : BitVec 2} {data : Half} (h : triggers be data = true) : be.getLsbD 1 = true :=
  (Bool.and_eq_true_iff.mp h).1

/-- The freq of a write that enables the high lane: its high bits and, with the low lane, its low byte are the data's
(R205, R603). -/
theorem writtenControl_freq {be : BitVec 2} (data : Half) (lenEn : Bool) (freq : BitVec 11)
    (hbe : be.getLsbD 1 = true) :
    ((writtenControl be data lenEn freq).extractLsb' 0 11).toNat = writtenFreq be data freq := by
  have hfields : (writtenControl be data lenEn freq).extractLsb' 0 11 =
      data.extractLsb' 8 3 ++ (if be.getLsbD 0 then data.extractLsb' 0 8 else freq.extractLsb' 0 8) := by
    apply BitVec.eq_of_getLsbD_eq
    intro i hi
    rw [BitVec.getLsbD_extractLsb', writtenControl, BitVec.getLsbD_and, merge_getLsbD _ _ _ _ (by omega)]
    simp only [packControl, BitVec.getLsbD_append]
    interval_cases i <;> simp_all <;> split <;> simp
  rw [hfields, append_toNat, writtenFreq]
  split <;> simp only [BitVec.extractLsb'_toNat, Nat.shiftRight_eq_div_pow] <;> omega

theorem writtenControl_lenEn {be : BitVec 2} (data : Half) (lenEn : Bool) (freq : BitVec 11)
    (hbe : be.getLsbD 1 = true) : (writtenControl be data lenEn freq).getLsbD 14 = data.getLsbD 14 := by
  rw [writtenControl, BitVec.getLsbD_and, merge_getLsbD _ _ _ _ (by decide)]
  simp_all

/-- TRIGGER_SQ, for the freq just written (R629). -/
theorem Square.writeControl_of_triggers {be : BitVec 2} {data : Half} (h : triggers be data = true) (c : Square) :
    (c.writeControl be data).freq.toNat = writtenFreq be data c.freq ∧
    (c.writeControl be data).lenEn = data.getLsbD 14 ∧
    (c.writeControl be data).enabled = true ∧
    (c.writeControl be data).length = (if c.length = 0 then 64 else c.length) ∧
    (c.writeControl be data).freqTimer.toNat = (2048 - writtenFreq be data c.freq) * 4 ∧
    (c.writeControl be data).dutyPos = 0 ∧
    (c.writeControl be data).env = { c.env with volume := c.env.init, timer := c.env.step } := by
  have hbe := highLane_of_triggers h
  have hfreq := writtenControl_freq data c.lenEn c.freq hbe
  rw [Square.writeControl_eq, if_pos h]
  refine ⟨hfreq, writtenControl_lenEn data c.lenEn c.freq hbe, rfl, rfl, ?_, rfl, rfl⟩
  rw [← hfreq]
  exact squarePeriod_toNat _

/-- Settles O19: `Square.writeControl_of_triggers` for both channels; SOUND1CNT_X also reloads the sweep countdown. -/
theorem squareTriggerRestartsTheChannel : Obligations.SquareTriggerRestartsTheChannel := by
  intro be data s h
  obtain ⟨hfreq, hlenEn, henabled, hlength, htimer, hpos, henv⟩ := s.ch1.writeControl_of_triggers h
  obtain ⟨hfreq', hlenEn', henabled', hlength', htimer', hpos', henv'⟩ := s.ch2.writeControl_of_triggers h
  exact ⟨⟨_, rfl, hfreq, hlenEn, henabled, hlength, htimer, hpos, henv, if_pos h⟩,
    ⟨_, rfl, hfreq', hlenEn', henabled', hlength', htimer', hpos', henv', rfl⟩⟩

/-- Settles O20: TRIGGER_WAVE, for the freq just written (R630). -/
theorem waveTriggerEnablesOnlyWhilePlaying : Obligations.WaveTriggerEnablesOnlyWhilePlaying := by
  intro be data s h
  have hfreq := writtenControl_freq data s.wave.lenEn s.wave.freq (highLane_of_triggers h)
  refine ⟨{ s with wave := s.wave.writeControl be data }, rfl, ?_⟩
  rw [Wave.writeControl_eq, if_pos h]
  refine ⟨hfreq, rfl, rfl, ?_, rfl⟩
  rw [← hfreq]
  exact wavePeriod_toNat _

/-- The fields of the low lane in a write of SOUND4CNT_H that enables it (R205, R610). -/
theorem Noise.writtenControl_fields (c : Noise) {be : BitVec 2} (data : Half) (hbe : be.getLsbD 0 = true) :
    ((c.writtenControl be data).extractLsb' 0 3).toNat = data.toNat % 8 ∧
    (c.writtenControl be data).getLsbD 3 = data.getLsbD 3 ∧
    ((c.writtenControl be data).extractLsb' 4 4).toNat = data.toNat / 16 % 16 := by
  have hbit : ∀ i < 8, (c.writtenControl be data).getLsbD i = data.getLsbD i := by
    intro i hi
    rw [Noise.writtenControl, BitVec.getLsbD_and, merge_getLsbD _ _ _ _ (by omega), Nat.div_eq_of_lt hi, if_pos hbe]
    interval_cases i <;> simp
  have hslice : ∀ a n, a + n ≤ 8 → (c.writtenControl be data).extractLsb' a n = data.extractLsb' a n := by
    intro a n han
    apply BitVec.eq_of_getLsbD_eq
    intro i hi
    rw [BitVec.getLsbD_extractLsb', BitVec.getLsbD_extractLsb', hbit (a + i) (by omega)]
  rw [hslice 0 3 (by decide), hslice 4 4 (by decide), BitVec.extractLsb'_toNat, BitVec.extractLsb'_toNat,
    Nat.shiftRight_eq_div_pow, Nat.shiftRight_eq_div_pow, Nat.pow_zero, Nat.div_one]
  exact ⟨rfl, hbit 3 (by decide), rfl⟩

/-- Settles O21: TRIGGER_NOISE, by the width, r and s just written (R631). -/
theorem noiseTriggerSeedsTheLfsr : Obligations.NoiseTriggerSeedsTheLfsr := by
  intro be data s h
  refine ⟨{ s with noise := s.noise.writeControl be data }, rfl, ?_⟩
  rw [Noise.writeControl_eq, if_pos h]
  exact ⟨rfl, rfl, rfl, rfl, noisePeriod_toNat _ _, rfl, s.noise.writtenControl_fields data⟩

/-! ## Length loads (R602, R604, R607, R609) -/

theorem loadLength6_toNat (be : BitVec 2) (data : Half) (old : BitVec 7) :
    (loadLength6 be data old).toNat = if be.getLsbD 0 then 64 - data.toNat % 64 else old.toNat := by
  unfold loadLength6 laneLo
  split
  · rw [BitVec.toNat_sub, BitVec.toNat_setWidth, BitVec.extractLsb'_toNat, Nat.shiftRight_zero]
    simp only [BitVec.reduceToNat]
    omega
  · rfl

theorem loadLength8_toNat (be : BitVec 2) (data : Half) (old : BitVec 9) :
    (loadLength8 be data old).toNat = if be.getLsbD 0 then 256 - data.toNat % 256 else old.toNat := by
  unfold loadLength8 laneLo
  split
  · rw [BitVec.toNat_sub, BitVec.toNat_setWidth, BitVec.extractLsb'_toNat, Nat.shiftRight_zero]
    simp only [BitVec.reduceToNat]
    omega
  · rfl

/-- Settles O22: the four writes load by `loadLength6` and `loadLength8`. -/
theorem lengthLoadsNeedTheLowLane : Obligations.LengthLoadsNeedTheLowLane := fun be data s =>
  ⟨⟨_, rfl, loadLength6_toNat be data s.ch1.length⟩, ⟨_, rfl, loadLength6_toNat be data s.ch2.length⟩,
    ⟨_, rfl, loadLength8_toNat be data s.wave.length⟩, ⟨_, rfl, loadLength6_toNat be data s.noise.length⟩⟩

/-! ## Wave RAM (R611) -/

/-- Every byte of wave RAM after the store of one lane. -/
theorem Wave.byte_setLane (c : Wave) (lane b bank : Bool) {i j : Nat} (hi : i < 16) (hj : j < 16) (v : Byte) :
    (if lane then c.setByte b i v else c).byte bank j =
      if bank = b ∧ j = i ∧ lane = true then v else c.byte bank j := by
  cases lane
  · simp
  · simp [Wave.byte_setByte, hi, hj]

/-- Every byte of wave RAM after a write of a halfword. -/
theorem Wave.byte_writeRam (c : Wave) (k : Fin 8) (be : BitVec 2) (data : Half) (bank : Bool) {j : Nat} (hj : j < 16) :
    (c.writeRam k be data).byte bank j =
      if bank = !c.bank ∧ j = 2 * k.val ∧ be.getLsbD 0 = true then data.extractLsb' 0 8
      else if bank = !c.bank ∧ j = 2 * k.val + 1 ∧ be.getLsbD 1 = true then data.extractLsb' 8 8
      else c.byte bank j := by
  have hlo : 2 * k.val < 16 := by omega
  have hhi : 2 * k.val + 1 < 16 := by omega
  have hbank : (if laneLo be then c.setByte (!c.bank) (2 * k.val) (data.extractLsb' 0 8) else c).bank = c.bank := by
    split <;> rfl
  unfold Wave.writeRam
  dsimp only
  rw [hbank, Wave.byte_setLane _ _ _ _ hhi hj, Wave.byte_setLane _ _ _ _ hlo hj]
  by_cases heven : j = 2 * k.val
  · simp [heven, laneLo]
  · simp [heven, laneHi]

/-- Settles O23: `Wave.byte_writeRam`. -/
theorem waveRamWriteReachesTheOtherBankOnly : Obligations.WaveRamWriteReachesTheOtherBankOnly := fun k be data s =>
  ⟨_, rfl, fun bank j => s.wave.byte_writeRam k be data bank j.isLt⟩

/-! ## What the sound control switches off (R606, R704, R706, R707) -/

/-- SOUND3CNT_L has its three fields in the low lane, and disables channel 3 where it leaves wave_play 0 (R606). -/
theorem Wave.writeSelect_eq (c : Wave) (be : BitVec 2) (data : Half) :
    c.writeSelect be data = { c with
      play := if be.getLsbD 0 then data.getLsbD 7 else c.play
      bank := if be.getLsbD 0 then data.getLsbD 6 else c.bank
      dim := if be.getLsbD 0 then data.getLsbD 5 else c.dim
      enabled := c.enabled && (if be.getLsbD 0 then data.getLsbD 7 else c.play) } := by
  have hbits : c.packSelect.getLsbD 5 = c.dim ∧ c.packSelect.getLsbD 6 = c.bank ∧ c.packSelect.getLsbD 7 = c.play := by
    simp only [Wave.packSelect, BitVec.getLsbD_append]
    simp
  obtain ⟨hdim, hbank, hplay⟩ := hbits
  simp only [Wave.writeSelect, BitVec.getLsbD_and, merge_getLsbD _ _ _ _ (show 5 < 16 by decide),
    merge_getLsbD _ _ _ _ (show 6 < 16 by decide), merge_getLsbD _ _ _ _ (show 7 < 16 by decide), hdim, hbank, hplay]
  simp

/-- Settles O34: SOUND3CNT_L, the strobes of SOUNDCNT_H, and master_en, each by its write. -/
theorem controlWritesSwitchSoundOff : Obligations.ControlWritesSwitchSoundOff := fun be data s =>
  ⟨⟨_, rfl, s.wave.writeSelect_eq be data⟩, ⟨_, rfl, rfl, rfl, rfl, rfl⟩,
    congrArg Host.Outcome.next (writeSoundcntX_eq be data s)⟩

end Sys2Proof.Machine
end

section
/-! PROOFS. The channel step and the frame sequencer (R620-R628): what one clock of a unit does to its channel, and when
the sequencer clocks which unit. -/

namespace Sys2Proof.Machine

open Sys2Proof.Claims (squareStepped envelopeClocked lengthClocked)

/-! ## Frequency timers (R620-R624) -/

theorem one_lt_iff_toNat {w : Nat} (hw : 0 < w) (x : BitVec w) : 1 < x ↔ 1 < x.toNat := by
  rw [BitVec.lt_def, show (1 : BitVec w).toNat = 1 from BitVec.toNat_one hw]

theorem toNat_ne_zero_iff {w : Nat} (x : BitVec w) : x.toNat ≠ 0 ↔ x ≠ 0 := BitVec.toNat_ne_iff_ne (y := 0)

/-- A number that is not 0, less one. -/
theorem toNat_sub_one {w : Nat} {x : BitVec w} (h : 0 < x.toNat) : (x - 1).toNat = x.toNat - 1 := by
  have hw : 0 < w := by
    rcases Nat.eq_zero_or_pos w with rfl | hw
    · have := x.isLt
      omega
    · exact hw
  have hone : (1 : BitVec w).toNat = 1 := BitVec.toNat_one hw
  rw [BitVec.toNat_sub_of_le (BitVec.le_def.mpr (hone ▸ h)), hone]

/-- SQ_TIMER in numbers (R621). -/
theorem Square.stepTimer_stepped (c : Square) : squareStepped c c.stepTimer := by
  have hstep : c.stepTimer =
      if c.enabled = true then
        if 1 < c.freqTimer.toNat then { c with freqTimer := c.freqTimer - 1 }
        else { c with freqTimer := squarePeriod c.freq, dutyPos := c.dutyPos + 1 }
      else c := by
    unfold Square.stepTimer
    simp only [one_lt_iff_toNat (show 0 < 14 by decide)]
    cases c.enabled <;> rfl
  unfold squareStepped
  rw [hstep]
  split_ifs with hon hrun
  · exact ⟨rfl, toNat_sub_one (Nat.zero_lt_of_lt hrun)⟩
  · exact ⟨rfl, squarePeriod_toNat c.freq, BitVec.toNat_add _ _⟩
  · rfl

/-- WAVE_TIMER in numbers (R623). -/
theorem Wave.stepTimer_stepped (c : Wave) :
    if c.enabled = false then c.stepTimer = c
    else if 1 < c.freqTimer.toNat then
      c.stepTimer = { c with freqTimer := c.stepTimer.freqTimer } ∧
      c.stepTimer.freqTimer.toNat = c.freqTimer.toNat - 1
    else
      c.stepTimer = { c with freqTimer := c.stepTimer.freqTimer, pos := c.stepTimer.pos } ∧
      c.stepTimer.freqTimer.toNat = (2048 - c.freq.toNat) * 2 ∧
      c.stepTimer.pos.toNat = (c.pos.toNat + 1) % (if c.dim then 64 else 32) := by
  simp only [Wave.stepTimer, Bool.not_eq_true', one_lt_iff_toNat (show 0 < 13 by decide)]
  split
  · rfl
  · split
    · exact ⟨rfl, toNat_sub_one (Nat.zero_lt_of_lt ‹_›)⟩
    · refine ⟨rfl, wavePeriod_toNat c.freq, ?_⟩
      rw [BitVec.toNat_ofNat]
      split <;> omega

/-- The LFSR after one clock, in numbers (R624). -/
theorem lfsrNext_toNat (width : Bool) (l : BitVec 15) :
    (lfsrNext width l).toNat =
      Nat.xor (l.toNat / 2) (if l.getLsbD 0 then (if width then 0x60 else 0x6000) else 0) := by
  have hshift : (l >>> 1).toNat = l.toNat / 2 := by rw [BitVec.toNat_ushiftRight, Nat.shiftRight_eq_div_pow]
  unfold lfsrNext
  cases l.getLsbD 0
  · exact hshift.trans (Nat.xor_zero _).symm
  · cases width <;> exact (BitVec.toNat_xor _ _).trans (by rw [hshift]; rfl)

/-- NOISE_TIMER in numbers (R624). -/
theorem Noise.stepTimer_stepped (c : Noise) :
    if c.enabled = false ∨ 14 ≤ c.s.toNat then c.stepTimer = c
    else if 1 < c.freqTimer.toNat then
      c.stepTimer = { c with freqTimer := c.stepTimer.freqTimer } ∧
      c.stepTimer.freqTimer.toNat = c.freqTimer.toNat - 1
    else
      c.stepTimer = { c with
        freqTimer := c.stepTimer.freqTimer, lfsr := c.stepTimer.lfsr, out := c.lfsr.getLsbD 0 } ∧
      c.stepTimer.freqTimer.toNat = (if c.r = 0 then 8 else 16 * c.r.toNat) * 2 ^ c.s.toNat ∧
      c.stepTimer.lfsr.toNat =
        Nat.xor (c.lfsr.toNat / 2) (if c.lfsr.getLsbD 0 then (if c.width then 0x60 else 0x6000) else 0) := by
  have hidle : (!c.enabled || decide (14 ≤ c.s)) = true ↔ c.enabled = false ∨ 14 ≤ c.s.toNat := by
    rw [Bool.or_eq_true, Bool.not_eq_true', decide_eq_true_eq, BitVec.le_def]
    rfl
  have hstep : c.stepTimer =
      if c.enabled = false ∨ 14 ≤ c.s.toNat then c
      else if 1 < c.freqTimer.toNat then { c with freqTimer := c.freqTimer - 1 }
      else { c with freqTimer := noisePeriod c.r c.s, lfsr := lfsrNext c.width c.lfsr, out := c.lfsr.getLsbD 0 } := by
    simp only [Noise.stepTimer, hidle, one_lt_iff_toNat (show 0 < 22 by decide)]
  rw [hstep]
  split
  · rfl
  · split
    · exact ⟨rfl, toNat_sub_one (Nat.zero_lt_of_lt ‹_›)⟩
    · exact ⟨rfl, noisePeriod_toNat c.r c.s, lfsrNext_toNat c.width c.lfsr⟩

/-- APU_STEP between two clocks of the frame sequencer (R620). -/
theorem apuStep_of_counting {s : State} (h : s.apu.fsCounter.toNat ≠ 8191) :
    apuStep s = { stepTimers s with apu := { s.apu with fsCounter := s.apu.fsCounter + 1 } } :=
  if_neg fun hperiod => h (Nat.succ.inj hperiod)

/-- APU_STEP with a clock of the frame sequencer, after the timers (R620). -/
theorem apuStep_of_full {s : State} (h : s.apu.fsCounter.toNat = 8191) :
    apuStep s = fsClock { stepTimers s with apu := { s.apu with fsCounter := 0 } } :=
  if_pos (congrArg Nat.succ h)

/-- Settles O24: `apuStep_of_counting`, and the four timers in numbers. -/
theorem apuStepAdvancesFrequencyTimers : Obligations.ApuStepAdvancesFrequencyTimers := by
  intro s h
  refine ⟨_, congrArg Host.Outcome.next (apuStep_of_counting h), rfl, ?_⟩
  exact ⟨s.ch1.stepTimer_stepped, s.ch2.stepTimer_stepped, s.wave.stepTimer_stepped, s.noise.stepTimer_stepped⟩

/-- Settles O25: the timers do not read fs_counter, so they step as from a count of 0. -/
theorem everyEightThousandthApuStepClocksTheSequencer : Obligations.EveryEightThousandthApuStepClocksTheSequencer := by
  intro s h
  refine ⟨_, congrArg Host.Outcome.next (apuStep_of_counting (show (0 : BitVec 13).toNat ≠ 8191 by decide)), ?_⟩
  exact congrArg Host.Outcome.next (apuStep_of_full h)

/-! ## The frame sequencer (R625) -/

/-- FS_CLOCK's step advances modulo 8 (R625). -/
def State.advanceSequencer (s : State) : State := { s with apu := { s.apu with fsStep := s.apu.fsStep + 1 } }

/-- The units that FS_CLOCK clocks, by its step (R625). -/
theorem fsClock_eq (s : State) :
    (s.apu.fsStep.toNat ∈ [0, 4] → fsClock s = (lengthClock s).advanceSequencer) ∧
    (s.apu.fsStep.toNat ∈ [2, 6] → fsClock s = (sweepClock (lengthClock s)).advanceSequencer) ∧
    (s.apu.fsStep.toNat = 7 → fsClock s = (envelopeClock s).advanceSequencer) ∧
    (s.apu.fsStep.toNat ∈ [1, 3, 5] → fsClock s = s.advanceSequencer) := by
  simp only [List.mem_cons, List.not_mem_nil, or_false]
  unfold fsClock
  refine ⟨?_, ?_, ?_, ?_⟩
  · rintro (h | h) <;> (rw [h]; rfl)
  · rintro (h | h) <;> (rw [h]; rfl)
  · rintro h; rw [h]; rfl
  · rintro (h | h | h) <;> (rw [h]; rfl)

/-- Settles O26: `fsClock_eq`. -/
theorem frameSequencerClocksUnitsByStep : Obligations.FrameSequencerClocksUnitsByStep := by
  intro s
  obtain ⟨hlength, hsweep, henvelope, hnone⟩ := fsClock_eq s
  exact ⟨decodeOfEncodeIsTheInstruction .evtFsClock rfl,
    fun h => ⟨_, rfl, congrArg Host.Outcome.next (hlength h)⟩,
    fun h => ⟨_, _, rfl, rfl, congrArg Host.Outcome.next (hsweep h)⟩,
    fun h => ⟨_, rfl, congrArg Host.Outcome.next (henvelope h)⟩,
    fun h => congrArg Host.Outcome.next (hnone h)⟩

/-! ## LENGTH_CLOCK (R626) -/

/-- A length counter after a length clock. -/
def lengthAfter {w : Nat} (enabled lenEn : Bool) (length : BitVec w) : BitVec w :=
  if lengthRuns enabled lenEn length then length - 1 else length

/-- A channel's enable after a length clock. -/
def enabledAfter {w : Nat} (enabled lenEn : Bool) (length : BitVec w) : Bool :=
  if lengthRuns enabled lenEn length then length - 1 != 0 else enabled

theorem Square.clockLength_eq (c : Square) :
    c.clockLength = { c with
      length := lengthAfter c.enabled c.lenEn c.length, enabled := enabledAfter c.enabled c.lenEn c.length } := by
  unfold Square.clockLength lengthAfter enabledAfter
  split <;> rfl

theorem Wave.clockLength_eq (c : Wave) :
    c.clockLength = { c with
      length := lengthAfter c.enabled c.lenEn c.length, enabled := enabledAfter c.enabled c.lenEn c.length } := by
  unfold Wave.clockLength lengthAfter enabledAfter
  split <;> rfl

theorem Noise.clockLength_eq (c : Noise) :
    c.clockLength = { c with
      length := lengthAfter c.enabled c.lenEn c.length, enabled := enabledAfter c.enabled c.lenEn c.length } := by
  unfold Noise.clockLength lengthAfter enabledAfter
  split <;> rfl

/-- The counter goes down by one, and the channel is disabled exactly if that is 0. -/
theorem lengthAfter_clocked {w : Nat} (enabled lenEn : Bool) (length : BitVec w) :
    lengthClocked lenEn enabled (enabledAfter enabled lenEn length) length.toNat
      (lengthAfter enabled lenEn length).toNat := by
  have hruns : lengthRuns enabled lenEn length = true ↔ enabled = true ∧ lenEn = true ∧ 0 < length.toNat := by
    rw [lengthRuns, Bool.and_eq_true, Bool.and_eq_true, and_assoc, bne_iff_ne, Nat.pos_iff_ne_zero,
      ← toNat_ne_zero_iff]
  unfold lengthClocked lengthAfter enabledAfter
  simp only [hruns]
  split_ifs with h
  · have hlower : (length - 1).toNat = length.toNat - 1 := toNat_sub_one h.2.2
    refine ⟨hlower, ?_⟩
    rw [← hlower, Bool.eq_iff_iff, decide_eq_true_iff, bne_iff_ne, toNat_ne_zero_iff]
  · exact ⟨rfl, rfl⟩

/-- Settles O27: the four counters and enables, by `lengthAfter_clocked`. -/
theorem lengthClockCountsDownAndDisables : Obligations.LengthClockCountsDownAndDisables := by
  intro s
  refine ⟨decodeOfEncodeIsTheInstruction .evtLengthClock rfl, lengthClock s, rfl, ?_⟩
  unfold lengthClock
  simp only [Square.clockLength_eq, Wave.clockLength_eq, Noise.clockLength_eq]
  exact ⟨trivial, lengthAfter_clocked .., lengthAfter_clocked .., lengthAfter_clocked .., lengthAfter_clocked ..⟩

/-! ## SWEEP_CLOCK (R627) -/

/-- The new frequency in the statement's integers; the countdown's fields do not matter. -/
theorem sweepTarget_eq (freq : BitVec 11) (w : Sweep) :
    (sweepTarget freq w : Int) =
      let f : Int := freq.toNat
      let delta : Int := f / 2 ^ w.shift.toNat
      if w.dir then f - delta else f + delta := by
  unfold sweepTarget
  dsimp only
  split
  · rw [Nat.cast_sub (Nat.div_le_self _ _)]
    simp
  · simp

/-- SWEEP_CLOCK changes the frequency, the enable and the sweep's countdown only (R627). -/
theorem sweepClock_eq (s : State) :
    sweepClock s = { s with
      ch1 := { s.ch1 with freq := (sweepClock s).ch1.freq, enabled := (sweepClock s).ch1.enabled }
      sweep := { s.sweep with timer := (sweepClock s).sweep.timer } } := by
  unfold sweepClock
  dsimp only
  split_ifs <;> rfl

/-- Settles O28: the branches of SWEEP_CLOCK in order; with shift 0 a frequency that does not overflow stays. -/
theorem sweepClockMovesTheFrequencyOrDisables : Obligations.SweepClockMovesTheFrequencyOrDisables := by
  intro s
  refine ⟨decodeOfEncodeIsTheInstruction .evtSweepClock rfl, sweepClock s, rfl, sweepClock_eq s, ?_⟩
  have htarget := sweepTarget_eq s.ch1.freq s.sweep
  dsimp only at htarget ⊢
  rw [← htarget]
  have hidle : (!s.ch1.enabled || decide (s.sweep.time = 0)) = true ↔ s.ch1.enabled = false ∨ s.sweep.time = 0 := by
    rw [Bool.or_eq_true, Bool.not_eq_true', decide_eq_true_eq]
  have hover : (2047 : Int) < (sweepTarget s.ch1.freq s.sweep : Int) ↔ 2047 < sweepTarget s.ch1.freq s.sweep :=
    by omega
  simp only [sweepClock, hidle, hover, ne_eq, ite_not, one_lt_iff_toNat (show 0 < 3 by decide)]
  split
  · rfl
  · rename_i hactive
    have hon : s.ch1.enabled = true := by simpa using fun h => hactive (.inl h)
    split
    · exact ⟨rfl, toNat_sub_one (Nat.zero_lt_of_lt ‹_›)⟩
    · split
      · exact ⟨rfl, rfl, rfl⟩
      · split
        · exact ⟨rfl, hon, rfl⟩
        · refine ⟨rfl, hon, ?_⟩
          rw [BitVec.toNat_ofNat]
          omega

/-! ## ENVELOPE_CLOCK (R628) -/

/-- A channel's envelope after an envelope clock. -/
def Envelope.after (enabled : Bool) (e : Envelope) : Envelope := if enabled then e.clock else e

theorem Square.clockEnvelope_eq (c : Square) : c.clockEnvelope = { c with env := c.env.after c.enabled } := by
  unfold Square.clockEnvelope Envelope.after
  split <;> rfl

theorem Noise.clockEnvelope_eq (c : Noise) : c.clockEnvelope = { c with env := c.env.after c.enabled } := by
  unfold Noise.clockEnvelope Envelope.after
  split <;> rfl

/-- The volume moves by one in its direction and stops at 0 and 15. -/
theorem volume_moved (dir : Bool) (v : BitVec 4) :
    (if dir then (if v < 15 then v + 1 else v) else (if 0 < v then v - 1 else v)).toNat =
      if dir then min 15 (v.toNat + 1) else v.toNat - 1 := by
  revert dir v
  decide

theorem Envelope.after_clocked (enabled : Bool) (e : Envelope) : envelopeClocked enabled e (e.after enabled) := by
  have hafter : e.after enabled =
      if enabled = true ∧ e.step ≠ 0 then
        if 1 < e.timer.toNat then { e with timer := e.timer - 1 }
        else { e with
          timer := e.step
          volume := if e.dir then (if e.volume < 15 then e.volume + 1 else e.volume)
                    else (if 0 < e.volume then e.volume - 1 else e.volume) }
      else e := by
    simp only [Envelope.after, Envelope.clock, one_lt_iff_toNat (show 0 < 3 by decide)]
    by_cases hstep : e.step = 0 <;> cases enabled <;> simp [hstep]
  unfold envelopeClocked
  rw [hafter]
  split
  · split
    · exact ⟨rfl, toNat_sub_one (Nat.zero_lt_of_lt ‹_›)⟩
    · exact ⟨rfl, volume_moved e.dir e.volume⟩
  · rfl

/-- Settles O29: the three envelopes, by `Envelope.after_clocked`. -/
theorem envelopeClockMovesVolumeWithinRange : Obligations.EnvelopeClockMovesVolumeWithinRange := by
  intro s
  refine ⟨decodeOfEncodeIsTheInstruction .evtEnvelopeClock rfl, envelopeClock s, rfl, ?_⟩
  unfold envelopeClock
  simp only [Square.clockEnvelope_eq, Noise.clockEnvelope_eq]
  exact ⟨trivial, Envelope.after_clocked .., Envelope.after_clocked .., Envelope.after_clocked ..⟩

end Sys2Proof.Machine
end

section
/-! PROOFS. Which instructions enable a channel (R629-R631, R633), and the samples of the channels (R622-R624, R632). -/

namespace Sys2Proof.Machine

open Sys2Proof.Claims (triggers squareSample waveSample samples dutyTable)

/-! ## What enables no channel (R633) -/

/-- A channel that is enabled in `t` was enabled in `s`. -/
def EnabledFrom (s t : State) : Prop :=
  (t.ch1.enabled = true → s.ch1.enabled = true) ∧ (t.ch2.enabled = true → s.ch2.enabled = true) ∧
  (t.wave.enabled = true → s.wave.enabled = true) ∧ (t.noise.enabled = true → s.noise.enabled = true)

theorem EnabledFrom.refl (s : State) : EnabledFrom s s := ⟨id, id, id, id⟩

theorem EnabledFrom.trans {s t u : State} (h : EnabledFrom s t) (k : EnabledFrom t u) : EnabledFrom s u := by
  obtain ⟨h1, h2, h3, h4⟩ := h
  obtain ⟨k1, k2, k3, k4⟩ := k
  exact ⟨h1 ∘ k1, h2 ∘ k2, h3 ∘ k3, h4 ∘ k4⟩

theorem EnabledFrom.ite {op : State → State} (h : ∀ s, EnabledFrom s (op s)) (c : Prop) [Decidable c] (s : State) :
    EnabledFrom s (if c then op s else s) := by
  split
  · exact h s
  · exact .refl s

theorem SameSound.enabledFrom {s t : State} (h : SameSound s t) : EnabledFrom s t := by
  obtain ⟨-, h1, -, h2, hwave, hnoise⟩ := h
  exact ⟨h1 ▸ id, h2 ▸ id, hwave ▸ id, hnoise ▸ id⟩

theorem TimerFrame.enabledFrom {s t : State} (h : TimerFrame s t) : EnabledFrom s t := by
  rw [h]
  exact .refl s

/-- A register write but for the four that can trigger: SOUND3CNT_L and SOUNDCNT_X only disable, the others leave the
enables (R606, R707). -/
theorem writeReg_enabledFrom (be : BitVec 2) (data : Half) {r : Reg}
    (hr : r ≠ .sound1cntX ∧ r ≠ .sound2cntH ∧ r ≠ .sound3cntX ∧ r ≠ .sound4cntH) (s : State) :
    EnabledFrom s (writeReg be data r s) := by
  cases r with
  | sound1cntX | sound2cntH | sound3cntX | sound4cntH => simp at hr
  | sound3cntL =>
    refine ⟨id, id, fun h => ?_, id⟩
    rw [writeReg, writeSound3cntL, Wave.writeSelect_eq] at h
    exact (Bool.and_eq_true_iff.mp h).1
  | soundcntX =>
    rw [writeReg, writeSoundcntX_eq]
    exact ⟨fun h => (Bool.and_eq_true_iff.mp h).1, fun h => (Bool.and_eq_true_iff.mp h).1,
      fun h => (Bool.and_eq_true_iff.mp h).1, fun h => (Bool.and_eq_true_iff.mp h).1⟩
  | _ => rw [writeReg_footprint]; exact .refl s

theorem Square.stepTimer_enabled (c : Square) : c.stepTimer.enabled = c.enabled := by
  unfold Square.stepTimer
  split_ifs <;> rfl

theorem Wave.stepTimer_enabled (c : Wave) : c.stepTimer.enabled = c.enabled := by
  unfold Wave.stepTimer
  split_ifs <;> rfl

theorem Noise.stepTimer_enabled (c : Noise) : c.stepTimer.enabled = c.enabled := by
  unfold Noise.stepTimer
  split_ifs <;> rfl

theorem stepTimers_enabledFrom (s : State) : EnabledFrom s (stepTimers s) :=
  ⟨s.ch1.stepTimer_enabled ▸ id, s.ch2.stepTimer_enabled ▸ id, s.wave.stepTimer_enabled ▸ id,
    s.noise.stepTimer_enabled ▸ id⟩

/-- A length clock can only disable (R626). -/
theorem enabled_of_enabledAfter {w : Nat} {enabled lenEn : Bool} {length : BitVec w}
    (h : enabledAfter enabled lenEn length = true) : enabled = true := by
  unfold enabledAfter at h
  split at h
  · rename_i hruns
    rw [lengthRuns, Bool.and_eq_true, Bool.and_eq_true] at hruns
    exact hruns.1.1
  · exact h

theorem lengthClock_enabledFrom (s : State) : EnabledFrom s (lengthClock s) := by
  unfold lengthClock
  simp only [Square.clockLength_eq, Wave.clockLength_eq, Noise.clockLength_eq]
  exact ⟨enabled_of_enabledAfter, enabled_of_enabledAfter, enabled_of_enabledAfter, enabled_of_enabledAfter⟩

theorem sweepClock_enabledFrom (s : State) : EnabledFrom s (sweepClock s) := by
  unfold sweepClock
  dsimp only
  split
  · exact .refl s
  · split
    · exact .refl s
    · split
      · exact ⟨nofun, id, id, id⟩
      · split <;> exact .refl s

theorem envelopeClock_enabledFrom (s : State) : EnabledFrom s (envelopeClock s) := by
  unfold envelopeClock
  simp only [Square.clockEnvelope_eq, Noise.clockEnvelope_eq]
  exact .refl s

theorem fsClock_enabledFrom (s : State) : EnabledFrom s (fsClock s) :=
  ((EnabledFrom.ite lengthClock_enabledFrom _ s).trans (.ite sweepClock_enabledFrom _ _)).trans
    (.ite envelopeClock_enabledFrom _ _)

theorem apuStep_enabledFrom (s : State) : EnabledFrom s (apuStep s) := by
  by_cases h : s.apu.fsCounter.toNat = 8191
  · rw [apuStep_of_full h]
    exact (stepTimers_enabledFrom s).trans (fsClock_enabledFrom _)
  · rw [apuStep_of_counting h]
    exact stepTimers_enabledFrom s

theorem tick_enabledFrom (s : State) : EnabledFrom s (tick s) := by
  have h := tick_sameSound s
  split at h
  · exact (apuStep_enabledFrom s).trans h.enabledFrom
  · exact h.enabledFrom

theorem leaveRunning_enabledFrom (h : HaltState) (s : State) : EnabledFrom s (s.leaveRunning h) := by
  unfold State.leaveRunning
  split <;> exact .refl s

theorem resetBlock_enabledFrom (s : State) : EnabledFrom s (resetBlock s) := by
  obtain ⟨-, h⟩ | ⟨-, h⟩ := betweenFrames_cases .reset s resetFields <;> rw [resetBlock, h]
  · exact .refl s
  · exact ⟨nofun, nofun, nofun, nofun⟩

/-! ## Triggers (R629-R631) -/

theorem Square.writeControl_enabled {c : Square} {be : BitVec 2} {data : Half}
    (h : (c.writeControl be data).enabled = true) : c.enabled = true ∨ triggers be data = true := by
  rw [Square.writeControl_eq] at h
  split at h
  · exact .inr ‹_›
  · exact .inl h

theorem Wave.writeControl_enabled {c : Wave} {be : BitVec 2} {data : Half}
    (h : (c.writeControl be data).enabled = true) : c.enabled = true ∨ triggers be data = true := by
  rw [Wave.writeControl_eq] at h
  split at h
  · exact .inr ‹_›
  · exact .inl h

theorem Noise.writeControl_enabled {c : Noise} {be : BitVec 2} {data : Half}
    (h : (c.writeControl be data).enabled = true) : c.enabled = true ∨ triggers be data = true := by
  rw [Noise.writeControl_eq] at h
  split at h
  · exact .inr ‹_›
  · exact .inl h

/-- A channel that is enabled in `t` was enabled in `s`, or `i` is a trigger write of its control register. -/
structure EnabledBy (i : Instr) (s t : State) : Prop where
  ch1 : t.ch1.enabled = true →
    s.ch1.enabled = true ∨ ∃ be data, i = .regWriteSound1cntX be data ∧ triggers be data = true
  ch2 : t.ch2.enabled = true →
    s.ch2.enabled = true ∨ ∃ be data, i = .regWriteSound2cntH be data ∧ triggers be data = true
  wave : t.wave.enabled = true →
    s.wave.enabled = true ∨ ∃ be data, i = .regWriteSound3cntX be data ∧ triggers be data = true
  noise : t.noise.enabled = true →
    s.noise.enabled = true ∨ ∃ be data, i = .regWriteSound4cntH be data ∧ triggers be data = true

theorem EnabledFrom.enabledBy {s t : State} (h : EnabledFrom s t) (i : Instr) : EnabledBy i s t := by
  obtain ⟨h1, h2, hwave, hnoise⟩ := h
  exact ⟨.inl ∘ h1, .inl ∘ h2, .inl ∘ hwave, .inl ∘ hnoise⟩

/-- Every instruction but a pass, whose agents may write any register. -/
theorem exec_enabledBy {i : Instr} (hi : i ≠ .evtPass) (s : State) : ∃ t, exec i s = .next t ∧ EnabledBy i s t := by
  cases i with
  | evtPass => exact absurd rfl hi
  | regWriteSound1cntX be data =>
    exact ⟨_, rfl, fun h => (Square.writeControl_enabled h).imp_right (⟨be, data, rfl, ·⟩), .inl, .inl, .inl⟩
  | regWriteSound2cntH be data =>
    exact ⟨_, rfl, .inl, fun h => (Square.writeControl_enabled h).imp_right (⟨be, data, rfl, ·⟩), .inl, .inl⟩
  | regWriteSound3cntX be data =>
    exact ⟨_, rfl, .inl, .inl, fun h => (Wave.writeControl_enabled h).imp_right (⟨be, data, rfl, ·⟩), .inl⟩
  | regWriteSound4cntH be data =>
    exact ⟨_, rfl, .inl, .inl, .inl, fun h => (Noise.writeControl_enabled h).imp_right (⟨be, data, rfl, ·⟩)⟩
  | regWriteSound3cntL be data =>
    exact ⟨_, rfl, (writeReg_enabledFrom be data (r := .sound3cntL) (by decide) s).enabledBy _⟩
  | regWriteSoundcntX be data =>
    exact ⟨_, rfl, (writeReg_enabledFrom be data (r := .soundcntX) (by decide) s).enabledBy _⟩
  | regWriteWaveRam k be data =>
    exact ⟨_, rfl, (writeReg_enabledFrom be data (r := .waveRam k) (by simp) s).enabledBy _⟩
  | regWriteIme be data =>
    exact ⟨_, rfl, (writeReg_enabledFrom be data (r := .ime) (by decide) s).enabledBy _⟩
  | regWriteHaltcnt be data =>
    exact ⟨_, rfl, (writeReg_enabledFrom be data (r := .haltcnt) (by decide) s).enabledBy _⟩
  | reset => exact ⟨_, rfl, (resetBlock_enabledFrom s).enabledBy _⟩
  | runFrame =>
    refine ⟨_, rfl, EnabledFrom.enabledBy ?_ _⟩
    obtain ⟨-, h⟩ | ⟨-, h⟩ := betweenFrames_cases .runFrame s beginFrame <;> (rw [runFrame, h]; exact .refl s)
  | setSpeed m =>
    refine ⟨_, rfl, EnabledFrom.enabledBy ?_ _⟩
    obtain ⟨_, h⟩ | ⟨-, -, h⟩ := setSpeed_cases m s <;> (rw [h]; exact .refl s)
  | cpuHalt => exact ⟨_, rfl, (leaveRunning_enabledFrom .halted s).enabledBy _⟩
  | cpuStop => exact ⟨_, rfl, (leaveRunning_enabledFrom .stopped s).enabledBy _⟩
  | cpuIntrwait mask =>
    refine ⟨_, rfl, EnabledFrom.enabledBy ?_ _⟩
    unfold cpuIntrwait
    split <;> exact .refl s
  | evtTick => exact ⟨_, rfl, (tick_enabledFrom s).enabledBy _⟩
  | evtTimerTick => exact ⟨_, rfl, (timerTick_frame s).enabledFrom.enabledBy _⟩
  | evtTimerInc n => exact ⟨_, rfl, (timerInc_induct (TimerFrame.closed s) n s (.refl s)).enabledFrom.enabledBy _⟩
  | evtTimerOverflow n =>
    exact ⟨_, rfl, (timerOverflow_induct (TimerFrame.closed s) n s (.refl s)).enabledFrom.enabledBy _⟩
  | evtFifoDrain f =>
    exact ⟨_, rfl, (TimerFrame.enabledFrom ((TimerFrame.closed s).drain s f (.refl s))).enabledBy _⟩
  | evtApuStep => exact ⟨_, rfl, (apuStep_enabledFrom s).enabledBy _⟩
  | evtFsClock => exact ⟨_, rfl, (fsClock_enabledFrom s).enabledBy _⟩
  | evtLengthClock => exact ⟨_, rfl, (lengthClock_enabledFrom s).enabledBy _⟩
  | evtSweepClock => exact ⟨_, rfl, (sweepClock_enabledFrom s).enabledBy _⟩
  | evtEnvelopeClock => exact ⟨_, rfl, (envelopeClock_enabledFrom s).enabledBy _⟩
  | evtRingPush =>
    refine ⟨_, rfl, EnabledFrom.enabledBy ?_ _⟩
    unfold ringPush
    (repeat' split) <;> exact .refl s
  | _ => exact ⟨_, rfl, .inl, .inl, .inl, .inl⟩

/-- Settles O30: `exec_enabledBy`, for a channel that was disabled. -/
theorem channelsBecomeEnabledOnlyByATrigger : Obligations.ChannelsBecomeEnabledOnlyByATrigger := by
  intro i s t h
  by_cases hi : i = .evtPass
  · exact ⟨fun _ _ => .inl hi, fun _ _ => .inl hi, fun _ _ => .inl hi, fun _ _ => .inl hi⟩
  · obtain ⟨u, hu, hby⟩ := exec_enabledBy hi s
    cases hu.symm.trans h
    have hnew : ∀ {on on' : Bool} {P : Prop}, (on' = true → on = true ∨ P) → on = false → on' = true →
        i = .evtPass ∨ P := fun hor hoff hon => .inr ((hor hon).resolve_left (by simp [hoff]))
    exact ⟨hnew hby.ch1, hnew hby.ch2, hnew hby.wave, hnew hby.noise⟩

/-! ## Samples (R600, R622-R624, R632) -/

theorem dutyBit_eq_dutyTable (d : BitVec 2) (p : BitVec 3) :
    dutyBit d p = decide ((dutyTable.getD d.toNat []).getD p.toNat 0 = 1) := by
  revert d p
  decide

theorem Square.sample_eq (c : Square) : c.sample = squareSample c := by
  unfold Square.sample signedVolume squareSample
  rw [dutyBit_eq_dutyTable]
  simp only [decide_eq_true_eq]

/-- The nibble in the statement's numbers (R611, R623). -/
theorem Wave.nibble_toNat (c : Wave) :
    c.nibble.toNat =
      let bank : Nat := if c.pos.toNat < 32 then c.bank.toNat else 1 - c.bank.toNat
      let j := c.pos.toNat % 32
      let byte := (c.byte (bank == 1) (j / 2)).toNat
      if j % 2 = 0 then byte / 16 else byte % 16 := by
  have hbank : (if c.pos < 32 then c.bank else !c.bank) =
      ((if c.pos.toNat < 32 then c.bank.toNat else 1 - c.bank.toNat) == 1) := by
    have hlow : c.pos < 32 ↔ c.pos.toNat < 32 := BitVec.lt_def
    simp only [hlow]
    split <;> cases c.bank <;> rfl
  unfold Wave.nibble
  dsimp only
  rw [hbank]
  split
  · rw [BitVec.extractLsb'_toNat, Nat.shiftRight_eq_div_pow]
    exact Nat.mod_eq_of_lt (by omega)
  · exact BitVec.extractLsb'_toNat ..

theorem Wave.sample_eq (c : Wave) : c.sample = waveSample c := by
  have hnibble := c.nibble_toNat
  dsimp only at hnibble
  simp only [Wave.sample, waveSample, ← hnibble, Int.fdiv_eq_ediv_of_nonneg _ (show (0 : Int) ≤ 4 by decide),
    Int.fdiv_eq_ediv_of_nonneg _ (show (0 : Int) ≤ 2 by decide)]
  cases c.enabled
  · rfl
  · cases c.force
    · have hvol := c.vol.isLt
      interval_cases c.vol.toNat <;> rfl
    · rfl

/-- The samples lie within the range of a volume and of a nibble with its sign (R632). -/
theorem signedVolume_bounds (enabled high : Bool) (volume : BitVec 4) :
    -15 ≤ signedVolume enabled high volume ∧ signedVolume enabled high volume ≤ 15 := by
  have := volume.isLt
  unfold signedVolume
  split_ifs <;> omega

theorem Wave.sample_bounds (c : Wave) : -15 ≤ c.sample ∧ c.sample ≤ 15 := by
  have := c.nibble.isLt
  unfold Wave.sample
  dsimp only
  (repeat' split) <;> omega

/-- Settles O31: the formulas of the four samples, and the bounds of a volume and of a nibble. -/
theorem channelSamplesStayWithinFifteen : Obligations.ChannelSamplesStayWithinFifteen := by
  intro s
  have hsamples : samples s = [s.ch1.sample, s.ch2.sample, s.wave.sample, s.noise.sample] := by
    rw [Square.sample_eq, Square.sample_eq, Wave.sample_eq]
    rfl
  refine ⟨s.ch1.sample_eq, s.ch2.sample_eq, s.wave.sample_eq, rfl, ?_, ?_, ?_, ?_, ?_⟩
  · rw [hsamples]
    simp only [List.forall_mem_cons, List.not_mem_nil, false_imp_iff, implies_true, and_true]
    exact ⟨signedVolume_bounds .., signedVolume_bounds .., s.wave.sample_bounds, signedVolume_bounds ..⟩
  all_goals
    intro hoff
    simp [Square.sample, Wave.sample, Noise.sample, signedVolume, hoff]

end Sys2Proof.Machine
end

section
/-! PROOFS. The FIFOs' writes and drains (R701-R703), and the mixer by the formula of R710. -/

namespace Sys2Proof.Machine

open Sys2Proof.Claims (drained noiseSample samples enabledSum fifoTerm mixed)

/-! ## FIFO writes and drains (R701-R703) -/

/-- The PUSHes of a list of samples, one by one, fill the queue as far as it is deep (R701). -/
theorem Fifo.foldl_push (bytes : List Byte) {q : Fifo} (h : q.queue.length ≤ 32) :
    bytes.foldl Fifo.push q = { q with queue := (q.queue ++ bytes).take 32 } := by
  induction bytes generalizing q with
  | nil => rw [List.append_nil, List.take_of_length_le h]; rfl
  | cons b bs ih =>
    rw [List.foldl_cons, ih (q.push_length_le b h)]
    unfold Fifo.push
    split
    · rw [List.append_assoc]; rfl
    · next hfull =>
      have hlen : q.queue.length = 32 := Nat.le_antisymm h (Nat.le_of_not_lt hfull)
      rw [List.take_left' hlen, List.take_left' hlen]

/-- Settles O32: a write PUSHes the bytes of the enabled lanes, `Fifo.foldl_push`. -/
theorem fifoWritesAppendUpToThirtyTwo : Obligations.FifoWritesAppendUpToThirtyTwo := by
  intro _ be data s
  refine ⟨fun h => ?_, fun h => ?_⟩
  · exact congrArg (fun q => (.next { s with fifoA := q } : Result)) (Fifo.foldl_push (laneBytes be data) h)
  · exact congrArg (fun q => (.next { s with fifoB := q } : Result)) (Fifo.foldl_push (laneBytes be data) h)

/-- Settles O33: `fifoDrain_eq`, with the request as what is sent. -/
theorem fifoDrainFillsLatchAndRequestsDma : Obligations.FifoDrainFillsLatchAndRequestsDma := by
  intro f s
  refine ⟨by cases f <;> decide, congrArg Host.Outcome.next ((fifoDrain_eq f s).trans ?_)⟩
  have hout : (s.setFifo f (drained (s.fifo f))).out = s.out := State.setFifo_out ..
  split
  · rw [State.emit, hout]
  · rw [← hout]

/-! ## The mixer (R710) -/

theorem Noise.sample_eq (c : Noise) : c.sample = noiseSample c := rfl

/-- The sum over the enabled channels, from the formulas of the samples (R632, R710). -/
theorem psgSum_eq_enabledSum (en : BitVec 4) (s : State) : psgSum en s = enabledSum en (samples s) := by
  unfold psgSum
  rw [s.ch1.sample_eq, s.ch2.sample_eq, s.wave.sample_eq, s.noise.sample_eq]
  simp [enabledSum, samples, List.range_succ, add_assoc]

/-- The table RATIO (R710). -/
theorem psgRatio_eq (c : Config.Params) (code : BitVec 2) :
    psgRatio c code =
      if code.toNat = 0 then 1 else if code.toNat = 1 then 2 else if code.toNat = 2 then 4 else c.psgRatio3 := by
  unfold psgRatio
  generalize code.toNat = k
  rcases k with _ | _ | _ | k <;> rfl

theorem Fifo.term_eq_fifoTerm (q : Fifo) (en : Bool) : q.term en = fifoTerm q en := by
  unfold Fifo.term fifoTerm
  rw [Int.mul_comm]

/-- One side of MIX is the formula of R710; with master_en 0 only the bias is left. -/
theorem mixSide_eq_mixed (s : State) (vol : BitVec 3) (en : BitVec 4) (enA enB : Bool) :
    mixSide s vol en enA enB =
      mixed s.apu.bias.toNat s.apu.masterEn vol.toNat s.apu.psgRatio.toNat s.params.psgRatio3
        (enabledSum en (samples s)) (fifoTerm s.fifoA enA + fifoTerm s.fifoB enB) := by
  unfold mixSide mixed clamp
  dsimp only
  rw [psgSum_eq_enabledSum, psgRatio_eq, s.fifoA.term_eq_fifoTerm, s.fifoB.term_eq_fifoTerm,
    Int.fdiv_eq_ediv_of_nonneg _ (show (0 : Int) ≤ 4 by decide)]
  cases s.apu.masterEn <;> rfl

/-- A mixed value has ten bits, whatever the terms are: the clamp comes last (R710). -/
theorem mixed_bounds (bias : Nat) (master : Bool) (vol ratioCode : Nat) (ratio3 psg fifo : Int) :
    -512 ≤ mixed bias master vol ratioCode ratio3 psg fifo ∧ mixed bias master vol ratioCode ratio3 psg fifo ≤ 511 := by
  unfold mixed
  dsimp only
  omega

/-- Settles O35: the bounds of the clamp, and `mixSide_eq_mixed` for the operands that MIX hands to RESAMPLE. -/
theorem mixFollowsTheFormulaWithinTenBits : Obligations.MixFollowsTheFormulaWithinTenBits := by
  intro s
  refine ⟨mixed_bounds .., mixed_bounds .., ⟨mix s, rfl⟩, ?_⟩
  simp only [← mixSide_eq_mixed]
  rfl

end Sys2Proof.Machine
end

section
/-! PROOFS. binary32 rounding (R805): the values of the codes, the place and the rounded multiple that `roundMagnitude`
finds, and that no finite code is nearer. -/

namespace Sys2Proof.Machine

/-! ## Values of codes -/

/-- The weight of the last place of a binary32 with exponent field `E + 1`, and for `E = 0` of a subnormal. -/
def placeValue (E : Nat) : Rat := 2 ^ E / 2 ^ 149

theorem placeValue_pos (E : Nat) : 0 < placeValue E := by unfold placeValue; positivity

theorem placeValue_add (E k : Nat) : placeValue (E + k) = 2 ^ k * placeValue E := by
  unfold placeValue
  rw [pow_add]
  ring

theorem placeValue_mono {E F : Nat} (h : E ≤ F) : placeValue E ≤ placeValue F := by
  obtain ⟨k, rfl⟩ := Nat.exists_eq_add_of_le h
  rw [placeValue_add]
  exact le_mul_of_one_le_left (placeValue_pos E).le (one_le_pow₀ (by norm_num))

/-- The magnitude that bits 30:0 of a binary32 stand for. -/
def codeValue (n : Nat) : Rat :=
  if n / 2 ^ 23 = 0 then (n % 2 ^ 23 : Nat) * placeValue 0
  else (2 ^ 23 + n % 2 ^ 23 : Nat) * placeValue (n / 2 ^ 23 - 1)

theorem f32Value_eq_codeValue (b : BitVec 32) :
    f32Value b = if b.getLsbD 31 then -codeValue (b.toNat % 2 ^ 31) else codeValue (b.toNat % 2 ^ 31) := by
  have hexpo : (b.extractLsb' 23 8).toNat = b.toNat % 2 ^ 31 / 2 ^ 23 := by rw [field_toNat]; omega
  have hfrac : (b.extractLsb' 0 23).toNat = b.toNat % 2 ^ 31 % 2 ^ 23 := by rw [field_toNat]; omega
  have hmag : (if (b.extractLsb' 23 8).toNat = 0 then ((b.extractLsb' 0 23).toNat : Rat) / 2 ^ 149
      else ((2 ^ 23 + (b.extractLsb' 0 23).toNat : Nat) : Rat) * 2 ^ (b.extractLsb' 23 8).toNat / 2 ^ 150) =
      codeValue (b.toNat % 2 ^ 31) := by
    rw [hexpo, hfrac, codeValue]
    split
    · rw [placeValue]
      ring
    · rename_i hne
      obtain ⟨g, hg⟩ := Nat.exists_eq_add_one_of_ne_zero hne
      rw [hg, Nat.add_sub_cancel, placeValue]
      ring
  unfold f32Value
  dsimp only
  rw [hmag]

/-- A multiple of a place that has 24 bits, or is the next power of two, is the value of the code that lies as many
steps above the place's first code. -/
theorem codeValue_of_place {E R : Nat} (hlow : 0 < E → 2 ^ 23 ≤ R) (hhigh : R ≤ 2 ^ 24) :
    codeValue (E * 2 ^ 23 + R) = R * placeValue E := by
  unfold codeValue
  rcases Nat.lt_or_ge R (2 ^ 23) with hsub | hnormal
  · obtain rfl : E = 0 := by by_contra h; have := hlow (Nat.pos_of_ne_zero h); omega
    rw [if_pos (by omega), show (0 * 2 ^ 23 + R) % 2 ^ 23 = R by omega]
  · rw [if_neg (by omega)]
    rcases hhigh.lt_or_eq with hlt | rfl
    · rw [show 2 ^ 23 + (E * 2 ^ 23 + R) % 2 ^ 23 = R by omega,
        show (E * 2 ^ 23 + R) / 2 ^ 23 - 1 = E by omega]
    · rw [show (E * 2 ^ 23 + 2 ^ 24) % 2 ^ 23 = 0 by omega,
        show (E * 2 ^ 23 + 2 ^ 24) / 2 ^ 23 - 1 = E + 1 by omega, placeValue_add]
      push_cast
      ring

/-- Every code is a multiple of a place, or below the first normal number of that place. -/
theorem codeValue_multiple_or_below (E n : Nat) :
    (∃ k : Nat, codeValue n = k * placeValue E) ∨ (0 < E ∧ codeValue n < 2 ^ 23 * placeValue E) := by
  have hfrac : n % 2 ^ 23 < 2 ^ 23 := Nat.mod_lt _ (by norm_num)
  unfold codeValue
  generalize n % 2 ^ 23 = m at *
  cases n / 2 ^ 23 with
  | zero =>
    rw [if_pos rfl]
    rcases Nat.eq_zero_or_pos E with rfl | hE
    · exact .inl ⟨m, rfl⟩
    · refine .inr ⟨hE, ?_⟩
      have hm : (m : Rat) < 2 ^ 23 := by exact_mod_cast hfrac
      calc (m : Rat) * placeValue 0 < 2 ^ 23 * placeValue 0 := mul_lt_mul_of_pos_right hm (placeValue_pos 0)
        _ ≤ 2 ^ 23 * placeValue E := by gcongr; exact placeValue_mono hE.le
  | succ g =>
    rw [if_neg g.succ_ne_zero, Nat.add_sub_cancel]
    rcases Nat.lt_or_ge g E with hlt | hge
    · refine .inr ⟨by omega, ?_⟩
      have hm : ((2 ^ 23 + m : Nat) : Rat) < 2 ^ 23 * 2 ^ 1 := by
        exact_mod_cast (by omega : 2 ^ 23 + m < 2 ^ 23 * 2 ^ 1)
      calc ((2 ^ 23 + m : Nat) : Rat) * placeValue g < 2 ^ 23 * 2 ^ 1 * placeValue g :=
            mul_lt_mul_of_pos_right hm (placeValue_pos g)
        _ = 2 ^ 23 * placeValue (g + 1) := by rw [placeValue_add, mul_assoc]
        _ ≤ 2 ^ 23 * placeValue E := by gcongr; exact placeValue_mono hlt
    · obtain ⟨k, rfl⟩ := Nat.exists_eq_add_of_le hge
      exact .inl ⟨(2 ^ 23 + m) * 2 ^ k, by rw [placeValue_add]; push_cast; ring⟩

/-! ## Rounding to an integer -/

/-- `R` is an integer nearest to `y`, and the even one on a tie. -/
def RoundsTo (y : Rat) (R : Nat) : Prop := |R - y| ≤ 1 / 2 ∧ (|R - y| = 1 / 2 → R % 2 = 0)

theorem roundHalfEven_roundsTo (a : Nat) {d : Nat} (hd : 0 < d) : RoundsTo (a / d) (roundHalfEven a d) := by
  have hd' : (0 : Rat) < d := by exact_mod_cast hd
  have ha : (a : Rat) = d * (a / d : Nat) + (a % d : Nat) := by exact_mod_cast (Nat.div_add_mod a d).symm
  have hr : a % d < d := Nat.mod_lt _ hd
  have hy : (a : Rat) / d = (a / d : Nat) + (a % d : Nat) / d := by
    rw [ha, add_div, mul_div_cancel_left₀ _ hd'.ne']
  rw [RoundsTo, hy]
  unfold roundHalfEven
  dsimp only
  generalize a / d = q at *
  generalize a % d = r at *
  have hpos : (0 : Rat) ≤ r / d := by positivity
  have hone : (r : Rat) / d < 1 := (div_lt_one hd').mpr (by exact_mod_cast hr)
  rcases Nat.lt_trichotomy (2 * r) d with hbelow | htie | habove
  · have hhalf : (r : Rat) / d < 1 / 2 := by
      rw [div_lt_div_iff₀ hd' (by norm_num)]
      exact_mod_cast (by omega : r * 2 < 1 * d)
    have hdist : |(q : Rat) - (q + r / d)| = r / d := by rw [sub_add_cancel_left, abs_neg, abs_of_nonneg hpos]
    rw [if_pos hbelow, hdist]
    exact ⟨hhalf.le, fun h => absurd h hhalf.ne⟩
  · have hhalf : (r : Rat) / d = 1 / 2 := by
      rw [div_eq_div_iff hd'.ne' (by norm_num)]
      exact_mod_cast (by omega : r * 2 = 1 * d)
    rw [if_neg (by omega), if_neg (by omega), hhalf]
    refine ⟨?_, fun _ => by omega⟩
    rcases Nat.mod_two_eq_zero_or_one q with hq | hq <;> rw [hq]
    · rw [Nat.add_zero, sub_add_cancel_left, abs_neg, abs_of_pos one_half_pos]
    · rw [Nat.cast_succ, add_sub_add_left_eq_sub, sub_half, abs_of_pos one_half_pos]
  · have hhalf : (1 : Rat) / 2 < r / d := by
      rw [div_lt_div_iff₀ (by norm_num) hd']
      exact_mod_cast (by omega : 1 * d < r * 2)
    have hdist : |((q + 1 : Nat) : Rat) - (q + r / d)| = 1 - r / d := by
      rw [Nat.cast_succ, add_sub_add_left_eq_sub, abs_of_pos (by linarith)]
    rw [if_neg (by omega), if_pos habove, hdist]
    exact ⟨by linarith, fun h => by linarith⟩

/-- No natural number is nearer, and on a tie with another one the rounded one is even. -/
theorem RoundsTo.nearest {y : Rat} {R : Nat} (h : RoundsTo y R) (k : Nat) :
    |(R : Rat) - y| ≤ |(k : Rat) - y| ∧ (|(R : Rat) - y| = |(k : Rat) - y| → k ≠ R → R % 2 = 0) := by
  obtain ⟨hnear, heven⟩ := h
  by_cases hk : k = R
  · subst hk
    exact ⟨le_rfl, fun _ h => absurd rfl h⟩
  · have hgap : (1 : Rat) ≤ |(k : Rat) - R| := by
      have : (1 : Int) ≤ |(k : Int) - R| := Int.one_le_abs (by omega)
      exact_mod_cast this
    have htri : |(k : Rat) - R| ≤ |(k : Rat) - y| + |(R : Rat) - y| := by
      rw [abs_sub_comm (R : Rat) y]
      exact abs_sub_le _ _ _
    exact ⟨by linarith, fun htie _ => heven (by linarith)⟩

/-! ## The place of a magnitude -/

/-- A quotient scaled by a power of two, in natural numbers. -/
theorem scaled_div (a d : Nat) (e : Int) :
    ((a * 2 ^ (-e).toNat : Nat) : Rat) / (d * 2 ^ e.toNat : Nat) = a / d / 2 ^ e := by
  obtain ⟨n, rfl | rfl⟩ := e.eq_nat_or_neg
  · simp [div_div]
  · simp [mul_div_right_comm]

/-- A positive number between its leading power of two and the next. -/
theorem log2_bounds {a : Nat} (ha : 0 < a) :
    (2 : Rat) ^ (a.log2 : Int) ≤ a ∧ (a : Rat) < 2 ^ ((a.log2 : Int) + 1) := by
  have hle : 2 ^ a.log2 ≤ a := Nat.log2_self_le ha.ne'
  have hlt : a < 2 ^ (a.log2 + 1) := Nat.lt_log2_self
  constructor <;> exact_mod_cast ‹_›

/-- `log2Ratio` is the exponent of the leading bit of a quotient. -/
theorem log2Ratio_bounds {a d : Nat} (ha : 0 < a) (hd : 0 < d) :
    (2 : Rat) ^ log2Ratio a d ≤ a / d ∧ (a : Rat) / d < 2 ^ (log2Ratio a d + 1) := by
  have hd' : (0 : Rat) < d := by exact_mod_cast hd
  obtain ⟨hale, halt⟩ := log2_bounds ha
  obtain ⟨hdle, hdlt⟩ := log2_bounds hd
  have htest (e : Int) : d * 2 ^ e.toNat ≤ a * 2 ^ (-e).toNat ↔ (2 : Rat) ^ e ≤ a / d := by
    have hden : (0 : Rat) < (d * 2 ^ e.toNat : Nat) := by exact_mod_cast (by positivity : 0 < d * 2 ^ e.toNat)
    rw [← one_le_div (zpow_pos (two_pos : (0 : Rat) < 2) e), ← scaled_div, one_le_div hden, Nat.cast_le]
  unfold log2Ratio
  dsimp only
  split
  · rename_i h
    refine ⟨(htest _).mp h, ?_⟩
    rw [div_lt_iff₀ hd']
    calc (a : Rat) < 2 ^ ((a.log2 : Int) + 1) := halt
      _ = 2 ^ ((a.log2 : Int) - d.log2 + 1) * 2 ^ (d.log2 : Int) := by
        rw [← zpow_add₀ two_ne_zero]
        congr 1
        ring
      _ ≤ 2 ^ ((a.log2 : Int) - d.log2 + 1) * d := by gcongr
  · rename_i h
    rw [sub_add_cancel]
    refine ⟨?_, lt_of_not_ge fun hle => h ((htest _).mpr hle)⟩
    rw [le_div_iff₀ hd']
    calc (2 : Rat) ^ ((a.log2 : Int) - d.log2 - 1) * d
        ≤ 2 ^ ((a.log2 : Int) - d.log2 - 1) * 2 ^ ((d.log2 : Int) + 1) := by gcongr
      _ = 2 ^ (a.log2 : Int) := by
        rw [← zpow_add₀ two_ne_zero]
        congr 1
        ring
      _ ≤ a := hale

theorem placeValue_eq_zpow (E : Nat) : placeValue E = 2 ^ ((E : Int) - 149) := by
  rw [placeValue, zpow_sub₀ two_ne_zero]
  norm_cast

/-- The place that `roundMagnitude` rounds to: the quotient has at most 24 bits there, and exactly 24 unless it is
subnormal. -/
theorem lastPlace_bounds {a d : Nat} (ha : 0 < a) (hd : 0 < d) :
    ∃ E : Nat, lastPlace a d = (E : Int) - 149 ∧ (a : Rat) / d < 2 ^ 24 * placeValue E ∧
      (0 < E → 2 ^ 23 * placeValue E ≤ (a : Rat) / d) := by
  obtain ⟨hle, hlt⟩ := log2Ratio_bounds ha hd
  have hscale (k E : Nat) : (2 : Rat) ^ k * placeValue E = 2 ^ ((E : Int) + k - 149) := by
    rw [placeValue_eq_zpow, ← zpow_natCast, ← zpow_add₀ two_ne_zero]
    congr 1
    ring
  obtain ⟨E, hE⟩ := Int.eq_ofNat_of_zero_le (a := max (log2Ratio a d) (-126) + 126) (by omega)
  refine ⟨E, by unfold lastPlace; omega, ?_, fun hpos => ?_⟩ <;> rw [hscale]
  · exact hlt.trans_le (zpow_le_zpow_right₀ one_le_two (by push_cast; omega))
  · rwa [show (E : Int) + (23 : Nat) - 149 = log2Ratio a d by push_cast; omega]

/-! ## round_f32 -/

/-- `E` and `R` are the place and the rounded multiple of a magnitude `x`: `x` has at most 24 bits at that place, and
exactly 24 unless it is subnormal. -/
structure Rounds (x : Rat) (E R : Nat) : Prop where
  near : RoundsTo (x / placeValue E) R
  below : x < 2 ^ 24 * placeValue E
  above : 0 < E → 2 ^ 23 * placeValue E ≤ x

theorem Rounds.multiple_le {x : Rat} {E R k : Nat} (h : Rounds x E R) (hk : x ≤ k * placeValue E) : R ≤ k := by
  obtain ⟨hdist, -⟩ := h.near
  have hx : x / placeValue E ≤ k := (div_le_iff₀ (placeValue_pos E)).mpr hk
  have : (R : Rat) < k + 1 := by linarith [le_abs_self ((R : Rat) - x / placeValue E)]
  exact Nat.lt_succ_iff.mp (by exact_mod_cast this)

theorem Rounds.le_multiple {x : Rat} {E R k : Nat} (h : Rounds x E R) (hk : k * placeValue E ≤ x) : k ≤ R := by
  obtain ⟨hdist, -⟩ := h.near
  have hx : k ≤ x / placeValue E := (le_div_iff₀ (placeValue_pos E)).mpr hk
  have : (k : Rat) < R + 1 := by linarith [neg_abs_le ((R : Rat) - x / placeValue E)]
  exact Nat.lt_succ_iff.mp (by exact_mod_cast this)

/-- The rounded multiple is the value of its code. -/
theorem Rounds.codeValue_eq {x : Rat} {E R : Nat} (h : Rounds x E R) :
    codeValue (E * 2 ^ 23 + R) = R * placeValue E :=
  codeValue_of_place (fun hE => h.le_multiple (by exact_mod_cast h.above hE))
    (h.multiple_le (by exact_mod_cast h.below.le))

/-- A magnitude of at most 1 has a code of at most 1.0's. -/
theorem Rounds.code_le_one {x : Rat} {E R : Nat} (h : Rounds x E R) (hx : x ≤ 1) : E * 2 ^ 23 + R ≤ 0x3F800000 := by
  have hplace : 2 ^ 23 * placeValue 126 = 1 := by norm_num [placeValue]
  have hR : R ≤ 2 ^ 24 := h.multiple_le (by exact_mod_cast h.below.le)
  rcases Nat.lt_trichotomy E 126 with hlt | rfl | hgt
  · omega
  · have hR' : R ≤ 2 ^ 23 := h.multiple_le (by push_cast; linarith)
    omega
  · have habove := h.above (by omega)
    have hmono : 2 * placeValue 126 ≤ placeValue E := by
      rw [← pow_one (2 : Rat), ← placeValue_add]
      exact placeValue_mono hgt
    linarith

/-- No code is nearer than the rounded one, and on a tie with another value its last bit is even. -/
theorem Rounds.nearest {x : Rat} {E R : Nat} (h : Rounds x E R) (n : Nat) :
    |R * placeValue E - x| ≤ |codeValue n - x| ∧
    (|R * placeValue E - x| = |codeValue n - x| → codeValue n ≠ R * placeValue E → R % 2 = 0) := by
  have hpos := placeValue_pos E
  have hscale (k : Nat) : |k * placeValue E - x| = |k - x / placeValue E| * placeValue E := by
    rw [← abs_of_pos hpos, ← abs_mul, abs_of_pos hpos, sub_mul, div_mul_cancel₀ x hpos.ne']
  rcases codeValue_multiple_or_below E n with ⟨k, hk⟩ | ⟨hE, hbelow⟩
  · obtain ⟨hle, heven⟩ := h.near.nearest k
    rw [hk, hscale, hscale]
    refine ⟨by gcongr, fun htie hne => heven (mul_right_cancel₀ hpos.ne' htie) fun hkR => hne (by rw [hkR])⟩
  · obtain ⟨hle, -⟩ := h.near.nearest (2 ^ 23)
    have hlt : |R * placeValue E - x| < |codeValue n - x| := by
      have habove := h.above hE
      have hx : |((2 ^ 23 : Nat) : Rat) * placeValue E - x| < |codeValue n - x| := by
        push_cast
        rw [abs_of_nonpos (by linarith), abs_of_neg (by linarith)]
        linarith
      refine lt_of_le_of_lt ?_ hx
      rw [hscale, hscale]
      gcongr
    exact ⟨hlt.le, fun htie => absurd htie hlt.ne⟩

theorem codeValue_zero : codeValue 0 = 0 := by simp [codeValue]

theorem codeValue_nonneg (n : Nat) : 0 ≤ codeValue n := by
  unfold codeValue
  have := placeValue_pos
  split
  · exact mul_nonneg (Nat.cast_nonneg _) (this _).le
  · exact mul_nonneg (Nat.cast_nonneg _) (this _).le

/-- The same with both signs: a negative code is farther than the code of 0. -/
theorem Rounds.nearest_signed {x : Rat} {E R : Nat} (h : Rounds x E R) (hx : 0 ≤ x) {v : Rat} {n : Nat}
    (hv : v = codeValue n ∨ v = -codeValue n) :
    |R * placeValue E - x| ≤ |v - x| ∧
    (|R * placeValue E - x| = |v - x| → v ≠ R * placeValue E → R % 2 = 0) := by
  rcases hv with rfl | rfl
  · exact h.nearest n
  · obtain ⟨hle, heven⟩ := h.nearest 0
    have hneg : |-codeValue n - x| = codeValue n + |codeValue 0 - x| := by
      have := codeValue_nonneg n
      rw [codeValue_zero, abs_of_nonpos (by linarith), zero_sub, abs_neg, abs_of_nonneg hx]
      ring
    rw [hneg]
    refine ⟨hle.trans (le_add_of_nonneg_left (codeValue_nonneg n)), fun htie hne => ?_⟩
    have hzero : codeValue n = 0 := by linarith [codeValue_nonneg n]
    rw [hzero, zero_add] at htie
    rw [hzero, neg_zero, ← codeValue_zero] at hne
    exact heven htie hne

theorem roundMagnitude_rounds {a d : Nat} (ha : 0 < a) (hd : 0 < d) (hle : (a : Rat) / d ≤ 1) :
    ∃ E R, Rounds (a / d) E R ∧ roundMagnitude a d = E * 2 ^ 23 + R := by
  obtain ⟨E, hE, hbelow, habove⟩ := lastPlace_bounds ha hd
  have hnear : RoundsTo (a / d / placeValue E)
      (roundHalfEven (a * 2 ^ (-lastPlace a d).toNat) (d * 2 ^ (lastPlace a d).toNat)) := by
    rw [placeValue_eq_zpow, ← hE, ← scaled_div]
    exact roundHalfEven_roundsTo _ (by positivity)
  have h : Rounds (a / d) E _ := ⟨hnear, hbelow, habove⟩
  refine ⟨E, _, h, ?_⟩
  have hcode := h.code_le_one hle
  unfold roundMagnitude
  dsimp only
  rw [show (lastPlace a d + 149).toNat = E by omega]
  exact Nat.min_eq_left (by omega)

/-- What `roundF32` gives for a frame's component: the sign, and the code of the rounded magnitude. -/
theorem roundF32_rounds {q : Rat} (hq : |q| ≤ 1) :
    ∃ E R, Rounds |q| E R ∧ (roundF32 q).toNat % 2 ^ 31 = E * 2 ^ 23 + R ∧
      (roundF32 q).getLsbD 31 = decide (q < 0) := by
  by_cases hzero : q = 0
  · subst hzero
    refine ⟨0, 0, ⟨?_, ?_, ?_⟩, rfl, rfl⟩
    · simp [RoundsTo]
    · have := placeValue_pos 0
      rw [abs_zero]
      positivity
    · exact fun h => absurd h (lt_irrefl 0)
  · have hnum : q.num ≠ 0 := Rat.num_ne_zero.mpr hzero
    have habs : |q| = (q.num.natAbs : Rat) / q.den := by
      conv_lhs => rw [← Rat.num_div_den q, abs_div, Nat.abs_cast]
      rw [Nat.cast_natAbs, Int.cast_abs]
    rw [habs] at hq ⊢
    obtain ⟨E, R, h, hcode⟩ := roundMagnitude_rounds (Int.natAbs_pos.mpr hnum) q.den_pos hq
    have hsmall := h.code_le_one hq
    refine ⟨E, R, h, ?_, ?_⟩ <;> rw [roundF32, if_neg hnum, hcode]
    · rw [append_toNat, BitVec.toNat_ofNat]
      omega
    · rw [BitVec.getLsbD_append]
      simp [Rat.num_neg]

/-- Settles O39: `Rounds.nearest_signed` for the magnitude, with the sign of the rational. -/
theorem roundingIsToNearestTiesToEven : Obligations.RoundingIsToNearestTiesToEven := by
  intro q hlo hhi b _
  obtain ⟨E, R, h, hcode, hsign⟩ := roundF32_rounds (abs_le.mpr ⟨hlo, hhi⟩)
  have heven (hR : R % 2 = 0) : (roundF32 q).getLsbD 0 = false := by
    rw [BitVec.getLsbD, Nat.testBit_zero, decide_eq_false_iff_not]
    omega
  have hvalue := f32Value_eq_codeValue (roundF32 q)
  rw [hcode, h.codeValue_eq, hsign] at hvalue
  have hb : f32Value b = codeValue (b.toNat % 2 ^ 31) ∨ f32Value b = -codeValue (b.toNat % 2 ^ 31) := by
    rw [f32Value_eq_codeValue]
    split
    · exact .inr rfl
    · exact .inl rfl
  rcases lt_or_ge q 0 with hneg | hpos
  · have hdist (v : Rat) : |v - q| = |-v - -q| := by rw [neg_sub_neg, abs_sub_comm]
    have hb' : -f32Value b = codeValue (b.toNat % 2 ^ 31) ∨ -f32Value b = -codeValue (b.toNat % 2 ^ 31) :=
      hb.symm.imp neg_eq_iff_eq_neg.mpr neg_inj.mpr
    rw [abs_of_neg hneg] at h
    obtain ⟨hnear, htie⟩ := h.nearest_signed (neg_nonneg.mpr hneg.le) hb'
    rw [hvalue, if_pos (decide_eq_true hneg), hdist, hdist (f32Value b), neg_neg]
    exact ⟨hnear, fun he hne => heven (htie he fun heq => hne (neg_eq_iff_eq_neg.mp heq))⟩
  · rw [abs_of_nonneg hpos] at h
    obtain ⟨hnear, htie⟩ := h.nearest_signed hpos hb
    rw [hvalue, if_neg (by simpa using hpos)]
    exact ⟨hnear, fun he hne => heven (htie he hne)⟩

/-- A rounded component of magnitude at most 1 has the bits of a magnitude of at most 1.0 (R813). -/
theorem roundF32_le_one {q : Rat} (hq : |q| ≤ 1) : (roundF32 q &&& 0x7FFFFFFF).toNat ≤ 0x3F800000 := by
  obtain ⟨E, R, h, hcode, -⟩ := roundF32_rounds hq
  have hmask : (roundF32 q &&& 0x7FFFFFFF).toNat = (roundF32 q).toNat % 2 ^ 31 := Nat.and_two_pow_sub_one_eq_mod _ 31
  rw [hmask, hcode]
  exact h.code_le_one hq

end Sys2Proof.Machine
end

section
/-! PROOFS. The resampler (R801, R805, R812, R813): what RESAMPLE hands on, how many outputs a list of inputs gives, and
their range. -/

namespace Sys2Proof.Machine

open Sys2Proof.Claims (resampleAll)

/-! ## One input (R801, R805) -/

/-- The phases below 1 at which RESAMPLE hands on an output. -/
def State.feedRounds (s : State) : Nat := Machine.feedRounds s.params.rsStep s.resampler.phase

theorem State.lt_feedRounds_iff (s : State) (j : Nat) :
    j < s.feedRounds ↔ s.resampler.phase + j * s.params.rsStep < 1 :=
  Machine.lt_feedRounds_iff (rsStep_pos s.params) s.resampler.phase j

/-- The phase that RESAMPLE leaves: the first that is not below 1, less 1. -/
theorem State.feedRounds_phase (s : State) : 0 ≤ s.resampler.phase + s.feedRounds * s.params.rsStep - 1 := by
  have := mt (s.lt_feedRounds_iff s.feedRounds).mpr (lt_irrefl _)
  linarith

theorem resample_eq (s : State) :
    resample s = { s with
      resampler :=
        { prevL := s.args.mixL, prevR := s.args.mixR
          phase := s.resampler.phase + s.feedRounds * s.params.rsStep - 1 }
      events :=
        (List.range s.feedRounds).map (fun j : Nat => pushEvent
          (s.resampler.output s.args.mixL s.args.mixR (s.resampler.phase + j * s.params.rsStep))) ++ s.events } := by
  have hloop := s.resampler.feedLoop_eq s.params.rsStep s.args.mixL s.args.mixR s.feedRounds s.resampler.phase
    fun j => (s.lt_feedRounds_iff j).mp
  unfold resample Resampler.feed
  dsimp only
  rw [← State.feedRounds, hloop, List.map_map]
  rfl

/-- Settles O36: `resample_eq`, with the rounds as the phases below 1. The statement's map runs over the rounds as
rationals. -/
theorem resampleInterpolatesAndQueuesPushes : Obligations.ResampleInterpolatesAndQueuesPushes := by
  intro s _
  refine ⟨_, s.feedRounds, congrArg Host.Outcome.next (resample_eq s), fun j => (s.lt_feedRounds_iff j).symm, ?_,
    s.feedRounds_phase⟩
  rw [bind_pure_comp, List.map_eq_map, List.map_map]
  rfl

/-! ## A list of inputs (R805, R812) -/

/-- The outputs of a list of inputs are as many as phases below their number, counted on from the first. -/
theorem resampleAll_outputs (xs : List (Rat × Rat)) {s : State} (h : 0 ≤ s.resampler.phase) :
    ∃ t n, resampleAll xs s = .next t ∧ t.events.length = n + s.events.length ∧
      ∀ j : Nat, j < n ↔ s.resampler.phase + j * s.params.rsStep < xs.length := by
  have hstep := rsStep_pos s.params
  induction xs generalizing s with
  | nil =>
    refine ⟨s, 0, rfl, (Nat.zero_add _).symm, fun j => iff_of_false (Nat.not_lt_zero j) ?_⟩
    rw [List.length_nil, Nat.cast_zero, not_lt]
    positivity
  | cons x xs ih =>
    let loaded : State := { s with args := { s.args with mixL := x.1, mixR := x.2 } }
    have hfed := resample_eq loaded
    obtain ⟨t, n, ht, hlength, hcount⟩ := ih (s := resample loaded) (by
      rw [hfed]
      exact loaded.feedRounds_phase) (by rw [hfed]; exact hstep)
    refine ⟨t, n + loaded.feedRounds, ht, ?_, fun j => ?_⟩
    · rw [hlength, hfed]
      simp [loaded, Nat.add_assoc]
    · have hfirst : j < loaded.feedRounds ↔ s.resampler.phase + j * s.params.rsStep < 1 :=
        loaded.lt_feedRounds_iff j
      have hlater (k : Nat) : k < n ↔
          s.resampler.phase + loaded.feedRounds * s.params.rsStep - 1 + k * s.params.rsStep < xs.length := by
        rw [hcount, hfed]
      rw [List.length_cons, Nat.cast_succ]
      rcases Nat.lt_or_ge j loaded.feedRounds with hlt | hge
      · have hbelow := hfirst.mp hlt
        have hlength : (0 : Rat) ≤ xs.length := Nat.cast_nonneg _
        exact iff_of_true (by omega) (by linarith)
      · obtain ⟨k, rfl⟩ := Nat.exists_eq_add_of_le hge
        rw [Nat.add_comm n, Nat.add_lt_add_iff_left, hlater]
        push_cast
        constructor <;> intro <;> linarith

/-- Settles O37: from phase 0 the outputs are the j with j * rs_step below the number of inputs. -/
theorem resamplerOutputCountIsExact : Obligations.ResamplerOutputCountIsExact := by
  intro xs s hphase
  obtain ⟨t, n, ht, hlength, hcount⟩ := resampleAll_outputs xs hphase.ge
  refine ⟨t, ht, ?_⟩
  have hout : (0 : Rat) < s.params.outRate.val := by exact_mod_cast s.params.outRate.property
  have hcount (j : Nat) : j < n ↔ (j : Rat) < ((xs.length * s.params.outRate.val : Nat) : Rat) / 32768 := by
    rw [hcount, hphase, zero_add, Config.Params.rsStep, ← mul_div_assoc, div_lt_iff₀ hout,
      lt_div_iff₀ (by norm_num)]
    push_cast [Config.inRate]
    rfl
  have hceil : ⌈((xs.length * s.params.outRate.val : Nat) : Rat) / 32768⌉ = n := by
    refine Int.ceil_eq_iff.mpr ⟨?_, not_lt.mp fun h => lt_irrefl n ((hcount n).mpr (by exact_mod_cast h))⟩
    cases n with
    | zero =>
      have hpos : (0 : Rat) ≤ ((xs.length * s.params.outRate.val : Nat) : Rat) / 32768 := by positivity
      exact lt_of_lt_of_le (by norm_num) hpos
    | succ n => simpa using (hcount n).mp n.lt_succ_self
  rw [hceil, hlength]
  push_cast
  ring

/-! ## The range of the outputs (R813) -/

/-- Between two values in [-1, 1] the interpolation stays there. -/
theorem interpolate_le_one {prev x phase : Rat} (hprev : |prev| ≤ 1) (hx : |x| ≤ 1) (h0 : 0 ≤ phase) (h1 : phase ≤ 1) :
    |interpolate prev x phase| ≤ 1 := by
  have hsplit : interpolate prev x phase = (1 - phase) * prev + phase * x := by unfold interpolate; ring
  calc |interpolate prev x phase| ≤ |(1 - phase) * prev| + |phase * x| := hsplit ▸ abs_add_le _ _
    _ = (1 - phase) * |prev| + phase * |x| := by
      rw [abs_mul, abs_mul, abs_of_nonneg h0, abs_of_nonneg (sub_nonneg.mpr h1)]
    _ ≤ (1 - phase) * 1 + phase * 1 := by gcongr
    _ = 1 := by ring

/-- Settles O38: every output is a rounded interpolation at a phase in [0, 1). -/
theorem resamplerOutputsStayInRange : Obligations.ResamplerOutputsStayInRange := by
  intro s hphase hpl hpl' hpr hpr' hml hml' hmr hmr' hevents
  refine ⟨_, congrArg Host.Outcome.next (resample_eq s), fun e he => ?_⟩
  rw [hevents, List.append_nil, List.mem_map] at he
  obtain ⟨j, hj, rfl⟩ := he
  have h0 : 0 ≤ s.resampler.phase + j * s.params.rsStep := by
    have := rsStep_pos s.params
    positivity
  have h1 := ((s.lt_feedRounds_iff j).mp (List.mem_range.mp hj)).le
  exact ⟨_, rfl, roundF32_le_one (interpolate_le_one (abs_le.mpr ⟨hpl, hpl'⟩) (abs_le.mpr ⟨hml, hml'⟩) h0 h1),
    roundF32_le_one (interpolate_le_one (abs_le.mpr ⟨hpr, hpr'⟩) (abs_le.mpr ⟨hmr, hmr'⟩) h0 h1)⟩

end Sys2Proof.Machine
end

section
/-! PROOFS. The ring buffer (R820-R826): what a push and a pop do to it, how frames come back, what a held push waits
for, and that nothing else touches it. -/

namespace Sys2Proof.Machine

open Sys2Proof.Claims

/-! ## RING_PUSH (R821, R823) -/

theorem ringPush_of_room {s : State} (h : s.ring.rb.length < s.params.rbCap.val) :
    ringPush s = { s with ring := { s.ring with rb := s.ring.rb ++ [s.args.push] } } := if_pos h

theorem ringPush_of_full_dropOldest {s : State} (hfull : s.params.rbCap.val ≤ s.ring.rb.length)
    (hdrop : s.params.rbPolicy = .dropOldest) :
    ringPush s =
      { s with ring := { s.ring with rb := s.ring.rb.tail ++ [s.args.push], dropped := s.ring.dropped + 1 } } := by
  rw [ringPush, if_neg (Nat.not_lt.mpr hfull), hdrop]

theorem ringPush_of_full_block {s : State} (hfull : s.params.rbCap.val ≤ s.ring.rb.length)
    (hblock : s.params.rbPolicy = .block) : ringPush s = s.enqueue [pushEvent s.args.push] := by
  rw [ringPush, if_neg (Nat.not_lt.mpr hfull), hblock]

/-- Settles O40: the three cases of RING_PUSH. -/
theorem ringPushAppendsDropsOrHolds : Obligations.RingPushAppendsDropsOrHolds := fun _ =>
  ⟨fun hroom => congrArg Host.Outcome.next (ringPush_of_room hroom),
    fun hfull hdrop => congrArg Host.Outcome.next (ringPush_of_full_dropOldest hfull hdrop),
    fun hfull hblock => congrArg Host.Outcome.next (ringPush_of_full_block hfull hblock)⟩

/-! ## RING_POP (R822) -/

/-- ARG8[7:1] are must-be-zero bits of RING_POP's row (R308). -/
theorem reservedBitSet_ringPop {top : BitVec 7} (htop : top ≠ 0) (pad : Bool) (count : Half) :
    reservedBitSet (cmdWord 2 7 (top ++ BitVec.ofBool pad) count) = true := by
  refine eq_true_of_ne_false fun h => htop ?_
  obtain ⟨harg, -⟩ := (reservedBitSet_command (.inl (wordClass_cmdWord _ _ _ _))).mp h
  have hmask : (top ++ BitVec.ofBool pad) &&& (0x7F#7 ++ 0#1) = 0#7 ++ 0#1 := by simpa [unusedArgs] using harg
  rw [BitVec.and_append, BitVec.and_zero] at hmask
  exact BitVec.and_allOnes.symm.trans ((BitVec.append_left_inj (0#1)).mp hmask)

/-- The frames of a pop are those it takes, and then silence. -/
theorem popFrames_parts (pad : Bool) (count : Nat) (rb : List Frame) :
    (popFrames pad count rb).take (min count rb.length) = rb.take count ∧
    ∀ x ∈ (popFrames pad count rb).drop (min count rb.length), x = ⟨0, 0⟩ := by
  have hlen : (rb.take count).length = min count rb.length := List.length_take
  unfold popFrames
  refine ⟨List.take_left' hlen, ?_⟩
  rw [List.drop_left' hlen]
  cases pad
  · simp
  · exact fun x hx => List.eq_of_mem_replicate hx

theorem ringPop_eq (pad : Bool) (count : Half) (s : State) :
    ringPop pad count s = { s with
      ring := { s.ring with
        rb := s.ring.rb.drop count.toNat
        underruns := s.ring.underruns + (if s.ring.rb.length < count.toNat then 1 else 0) }
      out := .frames (popFrames pad count.toNat s.ring.rb) :: s.out } := by
  unfold ringPop
  dsimp only
  split_ifs <;> rfl

/-- Settles O41: the word is the encoding, the top bits are must-be-zero bits, and `popFrames_parts`. -/
theorem ringPopReturnsOldestAndPads : Obligations.RingPopReturnsOldestAndPads := by
  intro pad count s
  obtain ⟨htaken, hsilent⟩ := popFrames_parts pad count.toNat s.ring.rb
  refine ⟨?_, fun top htop => ?_, _, popFrames pad count.toNat s.ring.rb, rfl, ?_, htaken,
    popFrames_length pad count.toNat s.ring.rb, hsilent⟩
  · have hword : 0x87#8 ++ 0#7 ++ BitVec.ofBool pad ++ count = encode (.ringPop pad count) := by
      cases pad <;> rfl
    rw [hword]
    exact decodeOfEncodeIsTheInstruction (.ringPop pad count) rfl
  · have hrow : rowInstr (cmdWord 2 7 (top ++ BitVec.ofBool pad) count) =
        some (.ringPop ((top ++ BitVec.ofBool pad).getLsbD 0) count) := by
      simp [rowInstr]
    have hword : 0x87#8 ++ top ++ BitVec.ofBool pad ++ count = cmdWord 2 7 (top ++ BitVec.ofBool pad) count :=
      congrArg (· ++ count) BitVec.append_assoc
    rw [hword, decode_of_rowInstr hrow, reservedBitSet_ringPop htop]
    simp [Instr.port]
  · exact ringPop_eq pad count s

/-! ## Pushes and pops in a row (R824) -/

/-- As long as they find room, pushes append their frames. -/
theorem pushAll_of_room {frs : List Frame} {s : State}
    (h : s.ring.rb.length + frs.length ≤ s.params.rbCap.val) :
    ∃ t, pushAll frs s = .next t ∧ t.ring = { s.ring with rb := s.ring.rb ++ frs } := by
  induction frs generalizing s with
  | nil => exact ⟨s, rfl, by rw [List.append_nil]⟩
  | cons fr frs ih =>
    rw [List.length_cons] at h
    let loaded : State := { s with args := { s.args with push := fr } }
    have hpush : ringPush loaded = { loaded with ring := { s.ring with rb := s.ring.rb ++ [fr] } } :=
      ringPush_of_room (s := loaded) (by change s.ring.rb.length < s.params.rbCap.val; omega)
    obtain ⟨t, ht, hring⟩ := ih (s := ringPush loaded) (by
      rw [hpush, List.length_append, List.length_singleton, Nat.add_right_comm]
      exact h)
    refine ⟨t, ht, ?_⟩
    rw [hring, hpush]
    simp

theorem framesReturned_append (new old : List Output) :
    framesReturned (new ++ old) = framesReturned old ++ framesReturned new := by
  simp [framesReturned]

/-- Pops that ask for no more than the ring holds return its oldest frames in order and count no under-run. -/
theorem popAll_of_le {pops : List (Bool × Half)} {s : State}
    (h : (pops.map (fun c => c.2.toNat)).sum ≤ s.ring.rb.length) :
    ∃ t outs, popAll pops s = .next t ∧ t.out = outs ++ s.out ∧
      framesReturned outs = s.ring.rb.take (pops.map (fun c => c.2.toNat)).sum ∧
      t.ring = { s.ring with rb := s.ring.rb.drop (pops.map (fun c => c.2.toNat)).sum } := by
  induction pops generalizing s with
  | nil => exact ⟨s, [], rfl, rfl, rfl, rfl⟩
  | cons c pops ih =>
    rw [List.map_cons, List.sum_cons] at h ⊢
    obtain ⟨pad, count⟩ := c
    dsimp only at h ⊢
    generalize (pops.map (fun c => c.2.toNat)).sum = n at *
    have hcount : count.toNat ≤ s.ring.rb.length := by omega
    have hring : (ringPop pad count s).ring = { s.ring with rb := s.ring.rb.drop count.toNat } := by
      rw [ringPop_eq, if_neg (Nat.not_lt.mpr hcount)]
      rfl
    obtain ⟨t, outs, ht, hout, hframes, htring⟩ := ih (s := ringPop pad count s) (by
      rw [hring, List.length_drop]
      omega)
    refine ⟨t, outs ++ [.frames (s.ring.rb.take count.toNat)], ht, ?_, ?_, ?_⟩
    · rw [hout, List.append_assoc, ← popFrames_of_le pad hcount]
      rfl
    · rw [framesReturned_append, hframes, hring, List.take_add]
      simp [framesReturned]
    · rw [htring, hring, List.drop_drop]

/-- Settles O42: `pushAll_of_room` from an empty ring, then `popAll_of_le` for all that was pushed. -/
theorem ringRoundTripReturnsFramesInOrder : Obligations.RingRoundTripReturnsFramesInOrder := by
  intro frs pops s hempty hroom hsum
  obtain ⟨t, ht, hpushed⟩ := pushAll_of_room (frs := frs) (s := s) (by simpa [hempty] using hroom)
  rw [hempty, List.nil_append] at hpushed
  have hrb : t.ring.rb = frs := by rw [hpushed]
  obtain ⟨u, outs, hu, hout, hframes, hring⟩ := popAll_of_le (pops := pops) (s := t) (by rw [hsum, hrb])
  rw [hsum, hrb] at hframes hring
  refine ⟨t, u, outs, ht, hu, hout, by rw [hframes, List.take_length], ?_⟩
  rw [hring, hpushed, List.drop_length, ← hempty]

/-! ## A held push (R823, R1031) -/

theorem presentExternal_of_held {p : Port} {s : State} (h : s.held = true) (hp : p ≠ .sink) (w : Word) :
    presentExternal p w s = .next s := by
  simp [presentExternal, h, hp]

theorem teardown_of_held {s : State} (h : s.held = true) : teardown s = s := by
  simp [teardown, h]

/-- With the script used up, a waiting push is what a safe state performs next, with its frame in the operand
register. -/
theorem step_push {s : State} {fr : Frame} {es : List Event} (hsafe : s.safe = true) (hup : s.tornDown = false)
    (hscript : s.env.script = []) (hevents : s.events = { word := 0xCD000000, arg := .output fr } :: es) :
    step s = .next (ringPush { s with events := es, args := { s.args with push := fr } }) := by
  have hdec : decode .internal 0xCD000000 = .instr .evtRingPush := by decide
  have hemulate : emulate s = present .internal 0xCD000000 ({ s with events := es }.loadArg (.output fr)) := by
    simp [emulate, hup, hevents]
  rw [step_of_safe hsafe, nextMove, hscript]
  exact hemulate.trans (present_instr hdec _)

/-- A pop keeps a safe state safe. -/
theorem ringPop_safe (pad : Bool) (count : Half) {s : State} (h : s.safe = true) :
    (ringPop pad count s).safe = true := by
  simp only [State.safe, Bool.and_eq_true] at h ⊢
  exact ⟨h.1, ringPop_invariants pad count h.2⟩

/-- Settles O43: the push goes back to the head of the events, every other turn passes, and a pop makes room for it. -/
theorem heldPushWaitsForThePop : Obligations.HeldPushWaitsForThePop := by
  intro s fr es hsafe hup hblock hfull hevents
  have hheld : s.held = true := (held_iff_holding s).mpr ⟨hblock, hfull.le, _, _, hevents⟩
  refine ⟨fun hscript => ?_, fun w p m ms hm hp hscript => ?_, fun ms hscript => ?_, ?_⟩
  · rw [step_push hsafe hup hscript hevents]
    let loaded : State := { s with args := { s.args with push := fr } }
    have hpush : ringPush { loaded with events := es } = { loaded with events := s.events } := by
      rw [hevents]
      exact ringPush_of_full_block (s := { loaded with events := es }) hfull.le hblock
    exact congrArg Host.Outcome.next hpush
  · rw [step_of_safe hsafe, nextMove, hscript]
    exact (performMove_wordMove hm _).trans
      (presentExternal_of_held (s := { s with env := { s.env with script := ms } }) hheld hp w)
  · rw [step_of_safe hsafe, nextMove, hscript]
    exact congrArg Host.Outcome.next (teardown_of_held (s := { s with env := { s.env with script := ms } }) hheld)
  · intro w count hscript hdec hcount
    let popped : State := ringPop false count { s with env := { s.env with script := [] } }
    have hpop : step s = .next popped := by
      rw [step_of_safe hsafe, nextMove, hscript]
      exact (presentExternal_sink w _).trans (present_instr hdec _)
    have hpush := step_push (s := popped) (ringPop_safe false count hsafe) hup rfl hevents
    have hroom : (s.ring.rb.drop count.toNat).length < s.params.rbCap.val := by
      have := s.params.rbCap.property
      rw [List.length_drop]
      omega
    refine ⟨popped, _, hpop, hpush, ?_, ?_⟩ <;> rw [ringPush_of_room hroom]
    rfl

/-! ## Conservation (R825) -/

/-- The sink's words in the call of Video.Tick only take frames (R822). -/
theorem tick_ring (s : State) :
    (tick s).ring.dropped = s.ring.dropped ∧ ∃ taken, s.ring.rb = taken ++ (tick s).ring.rb := by
  have hring : (tick s).ring = (tickCalled s).ring := by rw [tick_frame]
  have htimers : (timerTick s).ring = s.ring := by rw [timerTick_frame s]
  rw [hring, tickCalled, videoCalled, videoIssued_eq_performIssues, ← htimers]
  obtain ⟨-, -, -, -, -, -, -, -, h⟩ := performIssues_frame
    ((((timerTick s).env.video.headD (timerTick s).env.videoRest).issues).map VideoIssue.toIssue)
    { timerTick s with env := { (timerTick s).env with video := (timerTick s).env.video.tail } }
  exact h

theorem TimerFrame.ring {s t : State} (h : TimerFrame s t) : t.ring = s.ring := by rw [h]

theorem SoundFrame.ring {s t : State} (h : SoundFrame s t) : t.ring = s.ring := by rw [h]

theorem writeReg_ring (be : BitVec 2) (data : Half) (r : Reg) (s : State) : (writeReg be data r s).ring = s.ring := by
  rw [writeReg_footprint]
  cases r with
  | sound1cntX | sound2cntH | sound3cntX | sound4cntH =>
    rw [writeFootprint]
    split <;> rfl
  | _ => rfl

theorem betweenFrames_ring {i : Instr} {s : State} {op : State → State} (h : (op s).ring = s.ring) :
    (betweenFrames i s op).ring = s.ring := by
  obtain ⟨-, e⟩ | ⟨-, e⟩ := betweenFrames_cases i s op <;> rw [e]
  · rfl
  · exact h

/-- The instructions that are no push, no pop, no pass and no tick keep the ring. -/
theorem exec_ring {i : Instr} (s : State) (hpush : i ≠ .evtRingPush) (hpop : ∀ pad count, i ≠ .ringPop pad count)
    (hpass : i ≠ .evtPass) (htick : i ≠ .evtTick) : ∃ t, exec i s = .next t ∧ t.ring = s.ring := by
  cases i with
  | evtRingPush => exact absurd rfl hpush
  | ringPop pad count => exact absurd rfl (hpop pad count)
  | evtPass => exact absurd rfl hpass
  | evtTick => exact absurd rfl htick
  | regWriteSoundcntX be data => exact ⟨_, rfl, writeReg_ring be data .soundcntX s⟩
  | regWriteIme be data => exact ⟨_, rfl, writeReg_ring be data .ime s⟩
  | regWriteHaltcnt be data => exact ⟨_, rfl, writeReg_ring be data .haltcnt s⟩
  | cpuHalt => exact ⟨_, rfl, s.leaveRunning_ring .halted⟩
  | cpuStop => exact ⟨_, rfl, s.leaveRunning_ring .stopped⟩
  | cpuIntrwait mask =>
    refine ⟨_, rfl, ?_⟩
    unfold cpuIntrwait
    split <;> rfl
  | evtTimerTick => exact ⟨_, rfl, (timerTick_frame s).ring⟩
  | evtTimerInc n => exact ⟨_, rfl, (timerInc_induct (TimerFrame.closed s) n s (.refl s)).ring⟩
  | evtTimerOverflow n => exact ⟨_, rfl, (timerOverflow_induct (TimerFrame.closed s) n s (.refl s)).ring⟩
  | evtFifoDrain f => exact ⟨_, rfl, by rw [fifoDrain_frame]⟩
  | evtApuStep => exact ⟨_, rfl, (apuStep_soundFrame s).ring⟩
  | evtFsClock => exact ⟨_, rfl, (fsClock_soundFrame s).ring⟩
  | evtSweepClock => exact ⟨_, rfl, (sweepClock_soundFrame s).ring⟩
  | reset => exact ⟨_, rfl, betweenFrames_ring (i := .reset) (op := resetFields) rfl⟩
  | runFrame => exact ⟨_, rfl, betweenFrames_ring (i := .runFrame) (op := beginFrame) rfl⟩
  | setSpeed m =>
    obtain ⟨_, h⟩ | ⟨-, -, h⟩ := setSpeed_cases m s
    · exact ⟨_, rfl, by rw [h, State.refuse_ring]⟩
    · exact ⟨_, rfl, by rw [h]⟩
  | _ => exact ⟨_, rfl, rfl⟩

/-- Settles O59: the three cases of a push, the two parts of a pop, and what the sink's words take inside calls. -/
theorem ringFramesAreConserved : Obligations.RingFramesAreConserved := by
  intro i s t hexec
  refine ⟨?_, ?_, ?_, ?_, ?_⟩
  · rintro rfl hdrop
    obtain rfl : ringPush s = t := Host.Outcome.next.inj hexec
    rcases Nat.lt_or_ge s.ring.rb.length s.params.rbCap.val with hroom | hfull
    · rw [ringPush_of_room hroom, List.length_append, List.length_singleton]
      exact Nat.add_right_comm ..
    · have hcap := s.params.rbCap.property
      rw [ringPush_of_full_dropOldest hfull hdrop, List.length_append, List.length_tail, List.length_singleton]
      dsimp only
      omega
  · rintro rfl hblock
    obtain rfl : ringPush s = t := Host.Outcome.next.inj hexec
    rcases Nat.lt_or_ge s.ring.rb.length s.params.rbCap.val with hroom | hfull
    · rw [ringPush_of_room hroom]
      exact ⟨rfl, .inr rfl⟩
    · rw [ringPush_of_full_block hfull hblock]
      exact ⟨rfl, .inl rfl⟩
  · rintro pad count rfl
    obtain rfl : ringPop pad count s = t := Host.Outcome.next.inj hexec
    exact ⟨rfl, (List.take_append_drop count.toNat s.ring.rb).symm⟩
  · rintro (rfl | rfl)
    · obtain rfl : pass s = t := Host.Outcome.next.inj hexec
      exact pass_ring s
    · obtain rfl : tick s = t := Host.Outcome.next.inj hexec
      exact tick_ring s
  · intro hpush hpop hpass htick
    obtain ⟨u, hu, hring⟩ := exec_ring s hpush hpop hpass htick
    cases hu.symm.trans hexec
    exact hring

end Sys2Proof.Machine
end

section
/-! PROOFS. One induction principle over a transition: what the block's operations keep, every word and every move
keeps (R401, R420, R430, R900). -/

namespace Sys2Proof.Machine

/-! ## The rows of the agents' ports (R306, R308) -/

/-- An instruction of the BUS, CPU, IRQSRC or SINK port is a register's read, or does by definition what it does inside
a call. -/
theorem exec_agentExec_or_readRow {i : Instr} (hp : AgentPort i.port) :
    (∃ r, i = readRow r) ∨ ∀ s, exec i s = .next (agentExec i s) := by
  cases i with
  | reset | runFrame | setSpeed m => exact absurd rfl hp.1
  | evtPass | evtTick | evtTimerTick | evtTimerInc | evtTimerOverflow | evtFifoDrain | evtApuStep | evtFsClock
  | evtLengthClock | evtSweepClock | evtEnvelopeClock | evtMix | evtResample | evtRingPush => exact absurd rfl hp.2
  | regReadSound1cntL => exact .inl ⟨.sound1cntL, rfl⟩
  | regReadSound1cntH => exact .inl ⟨.sound1cntH, rfl⟩
  | regReadSound1cntX => exact .inl ⟨.sound1cntX, rfl⟩
  | regReadSound2cntL => exact .inl ⟨.sound2cntL, rfl⟩
  | regReadSound2cntH => exact .inl ⟨.sound2cntH, rfl⟩
  | regReadSound3cntL => exact .inl ⟨.sound3cntL, rfl⟩
  | regReadSound3cntH => exact .inl ⟨.sound3cntH, rfl⟩
  | regReadSound3cntX => exact .inl ⟨.sound3cntX, rfl⟩
  | regReadSound4cntL => exact .inl ⟨.sound4cntL, rfl⟩
  | regReadSound4cntH => exact .inl ⟨.sound4cntH, rfl⟩
  | regReadSoundcntL => exact .inl ⟨.soundcntL, rfl⟩
  | regReadSoundcntH => exact .inl ⟨.soundcntH, rfl⟩
  | regReadSoundcntX => exact .inl ⟨.soundcntX, rfl⟩
  | regReadSoundbias => exact .inl ⟨.soundbias, rfl⟩
  | regReadWaveRam k => exact .inl ⟨.waveRam k, rfl⟩
  | regReadFifoA h => exact .inl ⟨.fifoA h, rfl⟩
  | regReadFifoB h => exact .inl ⟨.fifoB h, rfl⟩
  | regReadTmcntL n => exact .inl ⟨.tmcntL n, rfl⟩
  | regReadTmcntH n => exact .inl ⟨.tmcntH n, rfl⟩
  | regReadIe => exact .inl ⟨.ie, rfl⟩
  | regReadIf => exact .inl ⟨.iflags, rfl⟩
  | regReadIme => exact .inl ⟨.ime, rfl⟩
  | regReadHaltcnt => exact .inl ⟨.haltcnt, rfl⟩
  | _ => exact .inr fun _ => rfl

/-- A register's read only sends a value (R206). -/
theorem exec_readRow_emits (r : Reg) (s : State) : ∃ v, exec (readRow r) s = .next (s.readResult v) := by
  cases r <;> exact ⟨_, rfl⟩

/-- The three kinds of rows: the agents' and the sink's, the host's, and the events. -/
theorem port_cases (p : Port) : AgentPort p ∨ p = .host ∨ p = .internal := by
  cases p <;> simp [AgentPort]

/-! ## Instructions -/

/-- Everything that instructions of other ports than HOST are made of keeps `P`: the agents' words and the timers'
events, the clocks of the channels, the sample and the ring, and changes of the scheduler, the APU's clocks, PASS's
result, the operands and the oracles' answers. -/
structure ExecClosed (P : State → Prop) : Prop extends AgentClosed P, TimerClosed P where
  stepTimers : ∀ s, P s → P (stepTimers s)
  lengthClock : ∀ s, P s → P (lengthClock s)
  sweepClock : ∀ s, P s → P (sweepClock s)
  envelopeClock : ∀ s, P s → P (envelopeClock s)
  resample : ∀ s, P s → P (resample s)
  push : ∀ s, P s → P (ringPush s)
  setSched : ∀ s c, c.waitMask = s.sched.waitMask → c.speed = s.sched.speed → P s → P { s with sched := c }
  setApu : ∀ s a, a.bias = s.apu.bias → P s → P { s with apu := a }
  setSeq : ∀ s q, P s → P { s with seq := q }
  setArgs : ∀ s a, P s → P { s with args := a }
  setAnswers : ∀ s e, e.script = s.env.script → P s → P { s with env := e }

section

variable {P : State → Prop} (h : ExecClosed P)
include h

theorem fsClock_induct (s : State) (hs : P s) : P (fsClock s) := by
  have hite : ∀ {op : State → State}, (∀ u, P u → P (op u)) → ∀ (c : Prop) [Decidable c] (u : State), P u →
      P (if c then op u else u) := by
    intro op hop c _ u hu
    split
    · exact hop u hu
    · exact hu
  exact h.setApu _ _ rfl
    (hite h.envelopeClock (s.apu.fsStep.toNat = 7) _
      (hite h.sweepClock (s.apu.fsStep.toNat % 4 = 2) _
        (hite h.lengthClock (s.apu.fsStep.toNat % 2 = 0) s hs)))

theorem apuStep_induct (s : State) (hs : P s) : P (apuStep s) := by
  unfold apuStep
  have htimers := h.stepTimers s hs
  dsimp only
  split
  · exact fsClock_induct h _ (h.setApu _ _ rfl htimers)
  · exact h.setApu _ _ rfl htimers

theorem wake_induct (p : Half) (s : State) (hs : P s) : P (s.wake p) := by
  unfold State.wake
  split
  · exact h.setSched _ _ rfl rfl hs
  · exact hs

theorem signal_induct (p : Half) (s : State) (hs : P s) : P (s.signal p) := by
  have hsched := h.setSched s (s.signal p).sched rfl rfl hs
  have hsignal : s.signal p = { s with
      sched := (s.signal p).sched
      out := if irqLevel s.irq.ime p then .raiseInterrupt :: s.out else s.out } := rfl
  rw [hsignal]
  split
  · exact h.emit _ .raiseInterrupt hsched
  · exact hsched

theorem dmaStep_induct (s : State) (hs : P s) : P (dmaStep s).2 := by
  have henv := h.setAnswers s { s.env with dma := (nextAnswer s.env.dma s.env.dmaRest).2 } rfl hs
  unfold dmaStep
  dsimp only
  split
  · exact henv
  · exact performIssues_induct h.toAgentClosed _ _ henv

theorem cpuStep_induct (s : State) (hs : P s) : P (cpuStep s).2 :=
  performIssues_induct h.toAgentClosed _ _ (h.setAnswers s _ rfl hs)

theorem passStep4_induct (s : State) (hs : P s) : P (passStep4 s) := by
  have hdma := dmaStep_induct h s hs
  unfold passStep4
  dsimp only
  split
  · exact h.setSeq _ _ (cpuStep_induct h _ hdma)
  · exact h.setSeq _ _ hdma

theorem pass_induct (s : State) (hs : P s) : P (pass s) := by
  have hsignal := signal_induct h (pending s.irq) _ (wake_induct h (pending s.irq) s hs)
  unfold pass
  dsimp only
  split
  · exact h.setSeq _ _ hsignal
  · exact passStep4_induct h _ hsignal

theorem tickVideo_induct (s : State) (hs : P s) : P (tickVideo s) := by
  have hcall : P (videoTick s).2 := performIssues_induct h.toAgentClosed _ _ (h.setAnswers s _ rfl hs)
  unfold tickVideo
  dsimp only
  split
  · exact h.emit _ _ (h.setSched _ _ rfl rfl hcall)
  · exact hcall

theorem tickApu_induct (s : State) (hs : P s) : P (tickApu s) := by
  unfold tickApu
  dsimp only
  split_ifs
  · exact apuStep_induct h _ (h.setApu _ _ rfl hs)
  · exact h.setApu _ _ rfl hs
  · exact h.setApu _ _ rfl hs

theorem mix_induct (s : State) (hs : P s) : P (mix s) := h.resample _ (h.setArgs _ _ hs)

theorem tickAudio_induct (s : State) (hs : P s) : P (tickAudio s) := by
  unfold tickAudio
  split
  · exact h.setApu _ _ rfl (mix_induct h s hs)
  · exact h.setApu _ _ rfl hs

theorem tick_induct (s : State) (hs : P s) : P (tick s) :=
  tickAudio_induct h _ (tickApu_induct h _ (tickVideo_induct h _ (timerTick_induct h.toTimerClosed s hs)))

/-- Every instruction of another port than HOST. -/
theorem exec_induct {i : Instr} (hp : i.port ≠ .host) {s : State} (hs : P s) : ∃ t, exec i s = .next t ∧ P t := by
  rcases port_cases i.port with hagent | hhost | hinternal
  · obtain ⟨r, rfl⟩ | hdef := exec_agentExec_or_readRow hagent
    · obtain ⟨v, hread⟩ := exec_readRow_emits r s
      exact ⟨_, hread, h.emit _ _ hs⟩
    · exact ⟨_, hdef s, agentExec_induct h.toAgentClosed i s hs⟩
  · exact absurd hhost hp
  · cases i with
    | evtPass => exact ⟨_, rfl, pass_induct h s hs⟩
    | evtTick => exact ⟨_, rfl, tick_induct h s hs⟩
    | evtTimerTick => exact ⟨_, rfl, timerTick_induct h.toTimerClosed s hs⟩
    | evtTimerInc n => exact ⟨_, rfl, timerInc_induct h.toTimerClosed n s hs⟩
    | evtTimerOverflow n => exact ⟨_, rfl, timerOverflow_induct h.toTimerClosed n s hs⟩
    | evtFifoDrain f => exact ⟨_, rfl, h.drain s f hs⟩
    | evtApuStep => exact ⟨_, rfl, apuStep_induct h s hs⟩
    | evtFsClock => exact ⟨_, rfl, fsClock_induct h s hs⟩
    | evtLengthClock => exact ⟨_, rfl, h.lengthClock s hs⟩
    | evtSweepClock => exact ⟨_, rfl, h.sweepClock s hs⟩
    | evtEnvelopeClock => exact ⟨_, rfl, h.envelopeClock s hs⟩
    | evtMix => exact ⟨_, rfl, mix_induct h s hs⟩
    | evtResample => exact ⟨_, rfl, h.resample s hs⟩
    | evtRingPush => exact ⟨_, rfl, h.push s hs⟩
    | _ => cases hinternal

/-- A word on another port than HOST, performed or refused. -/
theorem present_induct {p : Port} (hp : p ≠ .host) {w : Word} {s t : State} (hs : P s)
    (hpresent : present p w s = .next t) : P t := by
  cases hdec : decode p w with
  | refused e =>
    cases (present_refused hdec s).symm.trans hpresent
    exact h.emit _ _ hs
  | instr i =>
    obtain ⟨-, hport, -⟩ := decode_instr hdec
    obtain ⟨u, hexec, hu⟩ := exec_induct h (hport ▸ hp) hs
    cases ((present_instr hdec s).trans hexec).symm.trans hpresent
    exact hu

end

/-! ## Transitions -/

/-- And so does what only the sequencer and the host do: changes of the waiting events, RESET, a legal multiplier, and
the teardown. -/
structure MoveClosed (P : State → Prop) : Prop extends ExecClosed P where
  setEvents : ∀ s es, P s → P { s with events := es }
  reset : ∀ s, P s → P (resetFields s)
  setSpeed : ∀ s m, m ≠ 0 → P s → P { s with sched := { s.sched with speed := m } }
  tearDown : ∀ s, P s → P { s with tornDown := true }

section

variable {P : State → Prop} (h : MoveClosed P)
include h

/-- The sequencer's own transitions, by the place in R401. -/
theorem sequence_induct (s : State) (hs : P s) : P (sequence s) := by
  have hgoto : ∀ u ph, P u → P (u.goto ph) := fun u _ hu => h.setSeq u _ hu
  have hgenerate : ∀ u i ph, P u → P (u.generate i ph) := fun u _ ph hu =>
    h.setEvents _ _ (h.setSeq u { u.seq with phase := ph } hu)
  have hadvance : ∀ u : State, P u → P u.advanceTick := fun u hu => h.setSched u _ rfl rfl hu
  unfold sequence
  split
  · exact hs
  · split
    · exact hgenerate _ _ _ hs
    · exact hgoto _ _ hs
  · exact hgoto _ _ (hadvance _ (h.setSched s _ rfl rfl hs))
  · split
    · exact hgenerate _ _ _ hs
    · exact h.emit _ _ (hgoto _ _ (h.setSched s _ rfl rfl hs))
  · exact hgoto _ _ (h.setSeq s _ hs)
  · split
    · split
      · exact hgenerate _ _ _ hs
      · exact hadvance _ (h.setSeq s _ hs)
    · exact hgoto _ _ (h.setSched s _ rfl rfl hs)
  · exact hgoto _ _ (hadvance _ (h.setSeq s _ hs))

theorem loadArg_induct (a : EventArg) (s : State) (hs : P s) : P (s.loadArg a) := by
  cases a with
  | none => exact hs
  | mixed l r => exact h.setArgs _ _ hs
  | output fr => exact h.setArgs _ _ hs

theorem emulate_induct {s t : State} (hs : P s) (hmove : emulate s = .next t) : P t := by
  obtain ⟨-, e⟩ | ⟨-, -, e⟩ | ⟨-, ev, es, -, e⟩ := emulate_cases s <;> rw [e] at hmove
  · cases hmove
    exact hs
  · cases hmove
    exact sequence_induct h s hs
  · exact present_induct h.toExecClosed (by decide) (loadArg_induct h _ _ (h.setEvents s es hs)) hmove

/-- A word of the host: refused, or a RESET, the begin of a frame or a legal multiplier (R401, R402, R1001). -/
theorem present_host_induct {w : Word} {s t : State} (hs : P s) (hpresent : present .host w s = .next t) : P t := by
  cases hdec : decode .host w with
  | refused e =>
    cases (present_refused hdec s).symm.trans hpresent
    exact h.emit _ _ hs
  | instr i =>
    rw [present_instr hdec] at hpresent
    obtain ⟨hrow, hp, -⟩ := decode_instr hdec
    obtain ⟨-, ⟨rfl, -⟩ | rfl | ⟨rfl, -⟩⟩ := rowInstr_host hrow hp <;> cases hpresent
    · obtain ⟨-, e⟩ | ⟨-, e⟩ := betweenFrames_cases .reset s resetFields <;> rw [resetBlock, e]
      · exact h.emit _ _ hs
      · exact h.reset s hs
    · obtain ⟨-, e⟩ | ⟨-, e⟩ := betweenFrames_cases .runFrame s beginFrame <;> rw [runFrame, e]
      · exact h.emit _ _ hs
      · exact h.setSeq _ _ (h.setSched s (beginFrame s).sched rfl rfl hs)
    · obtain ⟨_, e⟩ | ⟨-, hm, e⟩ := setSpeed_cases (wordData w) s <;> rw [e]
      · exact h.emit _ _ hs
      · exact h.setSpeed s _ hm hs

theorem presentExternal_induct {p : Port} {w : Word} {s t : State} (hs : P s)
    (hmove : presentExternal p w s = .next t) : P t := by
  obtain ⟨-, -, e⟩ | ⟨-, e⟩ := presentExternal_cases p w s <;> rw [e] at hmove
  · cases hmove
    exact hs
  · by_cases hp : p = .host
    · subst hp
      exact present_host_induct h hs hmove
    · exact present_induct h.toExecClosed hp hs hmove

theorem performMove_induct {m : Move} {s t : State} (hs : P s) (hmove : performMove m s = .next t) : P t := by
  cases m with
  | emulate => exact emulate_induct h hs hmove
  | bus w | cpu w | host w | irqsrc w | sink w => exact presentExternal_induct h hs hmove
  | teardown =>
    cases hmove
    obtain ⟨-, e⟩ | ⟨-, -, e⟩ := teardown_cases s <;> rw [e]
    · exact hs
    · exact h.tearDown s hs

end

end Sys2Proof.Machine
end

section
/-! PROOFS. The invariants of R902, the ranges of 10_state.md and the recorded faults: each of the block's operations
keeps them, and so does every transition; and words act inside an oracle's call as they do anywhere else. -/

namespace Sys2Proof.Machine

/-! ## The invariants (R902) -/

/-- A length clock lowers a counter or leaves it (R626). -/
theorem lengthAfter_le {w : Nat} (enabled lenEn : Bool) {length bound : BitVec w} (h : length ≤ bound) :
    lengthAfter enabled lenEn length ≤ bound := by
  unfold lengthAfter
  split
  · rename_i hruns
    rw [lengthRuns, Bool.and_eq_true, bne_iff_ne, ← toNat_ne_zero_iff] at hruns
    rw [BitVec.le_def] at h ⊢
    rw [toNat_sub_one (Nat.pos_of_ne_zero hruns.2)]
    omega
  · exact h

theorem lengthClock_lengthsOk {s : State} (h : s.lengthsOk) : (lengthClock s).lengthsOk := by
  obtain ⟨h1, h2, h3, h4⟩ := h
  unfold lengthClock
  simp only [Square.clockLength_eq, Wave.clockLength_eq, Noise.clockLength_eq]
  exact ⟨lengthAfter_le _ _ h1, lengthAfter_le _ _ h2, lengthAfter_le _ _ h3, lengthAfter_le _ _ h4⟩

theorem Square.stepTimer_length (c : Square) : c.stepTimer.length = c.length := by
  unfold Square.stepTimer
  split_ifs <;> rfl

theorem Wave.stepTimer_length (c : Wave) : c.stepTimer.length = c.length := by
  unfold Wave.stepTimer
  split_ifs <;> rfl

theorem Noise.stepTimer_length (c : Noise) : c.stepTimer.length = c.length := by
  unfold Noise.stepTimer
  split_ifs <;> rfl

theorem stepTimers_lengthsOk {s : State} (h : s.lengthsOk) : (stepTimers s).lengthsOk := by
  obtain ⟨h1, h2, h3, h4⟩ := h
  exact ⟨s.ch1.stepTimer_length ▸ h1, s.ch2.stepTimer_length ▸ h2, s.wave.stepTimer_length ▸ h3,
    s.noise.stepTimer_length ▸ h4⟩

theorem envelopeClock_lengthsOk {s : State} (h : s.lengthsOk) : (envelopeClock s).lengthsOk := by
  unfold envelopeClock
  simp only [Square.clockEnvelope_eq, Noise.clockEnvelope_eq]
  exact h

/-- A change of the channels keeps the invariants if it keeps the bounds of the lengths. -/
theorem SoundFrame.invariants {s t : State} (h : SoundFrame s t) (hlengths : s.lengthsOk → t.lengthsOk)
    (hs : s.invariants = true) : t.invariants = true := by
  obtain ⟨hA, hB, hring, hie, hflags, hmask, hspeed, hbias, hok⟩ := (invariants_iff s).mp hs
  have hok := hlengths hok
  rw [h, invariants_iff]
  exact ⟨hA, hB, hring, hie, hflags, hmask, hspeed, hbias, hok⟩

/-- FIFO_DRAIN takes from a FIFO (R703). -/
theorem fifoDrain_length_le (f g : FifoId) (s : State) (h : (s.fifo g).queue.length ≤ Config.fifoDepth) :
    ((fifoDrain f s).fifo g).queue.length ≤ Config.fifoDepth := by
  rw [fifoDrain_fifo]
  split
  · subst g
    exact (List.tail_sublist _).length_le.trans h
  · exact h

theorem fifoDrain_invariants (f : FifoId) {s : State} (hs : s.invariants = true) :
    (fifoDrain f s).invariants = true := by
  rw [invariants_iff] at hs
  obtain ⟨hA, hB, hrest⟩ := hs
  have hA' := fifoDrain_length_le f .a s hA
  have hB' := fifoDrain_length_le f .b s hB
  rw [fifoDrain_frame, invariants_iff]
  exact ⟨hA', hB', hrest⟩

theorem ringPush_invariants {s : State} (hs : s.invariants = true) : (ringPush s).invariants = true := by
  rw [invariants_iff] at hs
  obtain ⟨hA, hB, hring, hrest⟩ := hs
  have hring := ringPush_length_le s hring
  have hframe : ringPush s = { s with ring := (ringPush s).ring, events := (ringPush s).events } := by
    unfold ringPush
    split
    · rfl
    · split <;> rfl
  rw [hframe] at hring ⊢
  rw [invariants_iff]
  exact ⟨hA, hB, hring, hrest⟩

/-- The block's operations keep the invariants of R902. -/
theorem invariants_moveClosed : MoveClosed (fun s => s.invariants = true) where
  toAgentClosed := invariants_agentClosed
  setTimer _ _ _ hs := hs
  setFlags s n hs := by
    rw [invariants_iff] at *
    obtain ⟨hA, hB, hring, hie, hflags, hrest⟩ := hs
    exact ⟨hA, hB, hring, hie, fits14_or hflags (fits14_timerFlag n), hrest⟩
  drain _ f hs := fifoDrain_invariants f hs
  stepTimers s hs := SoundFrame.invariants (s := s) rfl stepTimers_lengthsOk hs
  lengthClock s hs := SoundFrame.invariants (s := s) rfl lengthClock_lengthsOk hs
  sweepClock s hs := (sweepClock_soundFrame s).invariants (fun hok => by rw [sweepClock_eq]; exact hok) hs
  envelopeClock s hs := SoundFrame.invariants (s := s) rfl envelopeClock_lengthsOk hs
  resample _ hs := hs
  push _ hs := ringPush_invariants hs
  setSched s c hmask hspeed hs := by
    rw [invariants_iff] at *
    rwa [hmask, hspeed]
  setApu s a hbias hs := by
    rw [invariants_iff] at *
    rwa [hbias]
  setSeq _ _ hs := hs
  setArgs _ _ hs := hs
  setAnswers _ _ _ hs := hs
  setEvents _ _ hs := hs
  reset s hs := by
    obtain ⟨-, -, hring, -⟩ := (invariants_iff s).mp hs
    obtain ⟨hA, hB, -, hrest⟩ := (invariants_iff State.reset).mp rfl
    exact (invariants_iff _).mpr ⟨hA, hB, hring, hrest⟩
  setSpeed s m hm hs := by
    rw [invariants_iff] at *
    obtain ⟨hA, hB, hring, hie, hflags, hmask, -, hrest⟩ := hs
    exact ⟨hA, hB, hring, hie, hflags, hmask, hm, hrest⟩
  tearDown _ hs := hs

/-! ## The ranges of 10_state.md (R107, R109, R110, R112) -/

/-- The ranges, each a proposition of its own. -/
theorem rangesOk_iff (s : State) :
    s.rangesOk = true ↔
      s.ch1.freqTimer ≤ 8192 ∧ s.ch2.freqTimer ≤ 8192 ∧ s.wave.freqTimer ≤ 4096 ∧ s.noise.freqTimer ≤ 3670016 ∧
      s.wave.ramOk = true ∧ 0 ≤ s.resampler.phase := by
  simp only [State.rangesOk, Bool.and_eq_true, decide_eq_true_eq, and_assoc]

theorem squarePeriod_le (freq : BitVec 11) : squarePeriod freq ≤ 8192 := by
  rw [BitVec.le_def, squarePeriod_toNat]
  exact Nat.mul_le_mul_right 4 (Nat.sub_le 2048 _)

theorem wavePeriod_le (freq : BitVec 11) : wavePeriod freq ≤ 4096 := by
  rw [BitVec.le_def, wavePeriod_toNat]
  exact Nat.mul_le_mul_right 2 (Nat.sub_le 2048 _)

theorem noisePeriod_le (r : BitVec 3) (k : BitVec 4) : noisePeriod r k ≤ 3670016 := by
  revert r k
  decide

/-- A countdown that is more than 1 stays below its bound as it goes down. -/
theorem sub_one_le {w : Nat} (hw : 0 < w) {x bound : BitVec w} (hx : 1 < x) (h : x ≤ bound) : x - 1 ≤ bound := by
  rw [one_lt_iff_toNat hw] at hx
  rw [BitVec.le_def] at h ⊢
  rw [toNat_sub_one (Nat.zero_lt_of_lt hx)]
  omega

/-- A write of a control register keeps the countdown, or a trigger reloads it with the period (R603, R605, R629). -/
theorem Square.writeControl_freqTimer_le {c : Square} (h : c.freqTimer ≤ 8192) (be : BitVec 2) (data : Half) :
    (c.writeControl be data).freqTimer ≤ 8192 := by
  rw [Square.writeControl_eq]
  split
  · exact squarePeriod_le _
  · exact h

theorem Wave.writeControl_freqTimer_le {c : Wave} (h : c.freqTimer ≤ 4096) (be : BitVec 2) (data : Half) :
    (c.writeControl be data).freqTimer ≤ 4096 := by
  rw [Wave.writeControl_eq]
  split
  · exact wavePeriod_le _
  · exact h

theorem Noise.writeControl_freqTimer_le {c : Noise} (h : c.freqTimer ≤ 3670016) (be : BitVec 2) (data : Half) :
    (c.writeControl be data).freqTimer ≤ 3670016 := by
  rw [Noise.writeControl_eq]
  split
  · exact noisePeriod_le _ _
  · exact h

theorem Wave.writeControl_ram (c : Wave) (be : BitVec 2) (data : Half) : (c.writeControl be data).ram = c.ram := by
  rw [Wave.writeControl_eq]
  split <;> rfl

theorem Square.stepTimer_freqTimer_le {c : Square} (h : c.freqTimer ≤ 8192) : c.stepTimer.freqTimer ≤ 8192 := by
  unfold Square.stepTimer
  split_ifs with hoff hrun
  · exact h
  · exact sub_one_le (by decide) hrun h
  · exact squarePeriod_le _

theorem Wave.stepTimer_freqTimer_le {c : Wave} (h : c.freqTimer ≤ 4096) : c.stepTimer.freqTimer ≤ 4096 := by
  unfold Wave.stepTimer
  split
  · exact h
  · split
    · exact sub_one_le (by decide) ‹_› h
    · exact wavePeriod_le _

theorem Wave.stepTimer_ram (c : Wave) : c.stepTimer.ram = c.ram := by
  unfold Wave.stepTimer
  split_ifs <;> rfl

theorem Noise.stepTimer_freqTimer_le {c : Noise} (h : c.freqTimer ≤ 3670016) : c.stepTimer.freqTimer ≤ 3670016 := by
  unfold Noise.stepTimer
  split_ifs with hoff hrun
  · exact h
  · exact sub_one_le (by decide) hrun h
  · exact noisePeriod_le _ _

/-- Wave RAM is the canonical form of bytes that exist, each a proposition of its own (R109; log 20). -/
theorem Wave.ramOk_iff (c : Wave) : c.ramOk = true ↔ c.ram.wf = true ∧ ∀ cell ∈ c.ram, cell.1 < 32 := by
  simp only [Wave.ramOk, Bool.and_eq_true, List.all_eq_true, decide_eq_true_eq]

/-- A store of a byte that exists keeps that form. -/
theorem Wave.setByte_ramOk {c : Wave} (h : c.ramOk = true) (bank : Bool) {k : Nat} (hk : k < 16) (v : Byte) :
    (c.setByte bank k v).ramOk = true := by
  rw [Wave.ramOk_iff] at *
  obtain ⟨hwf, hkeys⟩ := h
  refine ⟨Memory.wf_write _ _ v hwf, fun cell hcell => ?_⟩
  obtain heq | hold := Memory.mem_write hcell
  · exact heq ▸ waveKey_lt bank hk
  · exact hkeys cell hold

theorem Wave.writeRam_ramOk {c : Wave} (h : c.ramOk = true) (k : Fin 8) (be : BitVec 2) (data : Half) :
    (c.writeRam k be data).ramOk = true := by
  have hlo : 2 * k.val < 16 := by omega
  have hhi : 2 * k.val + 1 < 16 := by omega
  unfold Wave.writeRam
  dsimp only
  split_ifs
  · exact Wave.setByte_ramOk (Wave.setByte_ramOk h _ hlo _) _ hhi _
  · exact Wave.setByte_ramOk h _ hhi _
  · exact Wave.setByte_ramOk h _ hlo _
  · exact h

/-- A register write (R205); only the four control registers reload a countdown, and only wave RAM stores bytes. -/
theorem writeReg_rangesOk (be : BitVec 2) (data : Half) (r : Reg) {s : State} (hs : s.rangesOk = true) :
    (writeReg be data r s).rangesOk = true := by
  have ⟨h1, h2, h3, h4, hram, hphase⟩ := (rangesOk_iff s).mp hs
  cases r with
  | sound1cntX =>
    exact (rangesOk_iff _).mpr ⟨Square.writeControl_freqTimer_le h1 be data, h2, h3, h4, hram, hphase⟩
  | sound2cntH =>
    exact (rangesOk_iff _).mpr ⟨h1, Square.writeControl_freqTimer_le h2 be data, h3, h4, hram, hphase⟩
  | sound3cntX =>
    refine (rangesOk_iff _).mpr ⟨h1, h2, Wave.writeControl_freqTimer_le h3 be data, h4, ?_, hphase⟩
    rwa [Wave.ramOk, writeReg, writeSound3cntX, Wave.writeControl_ram]
  | sound4cntH =>
    exact (rangesOk_iff _).mpr ⟨h1, h2, h3, Noise.writeControl_freqTimer_le h4 be data, hram, hphase⟩
  | waveRam k =>
    refine (rangesOk_iff _).mpr ⟨h1, h2, ?_, h4, Wave.writeRam_ramOk hram k be data, hphase⟩
    rwa [writeReg, writeWaveRam, Wave.writeRam_eq]
  | _ => rw [writeReg_footprint]; exact hs

theorem stepTimers_rangesOk {s : State} (hs : s.rangesOk = true) : (stepTimers s).rangesOk = true := by
  obtain ⟨h1, h2, h3, h4, hram, hphase⟩ := (rangesOk_iff s).mp hs
  refine (rangesOk_iff _).mpr ⟨Square.stepTimer_freqTimer_le h1, Square.stepTimer_freqTimer_le h2,
    Wave.stepTimer_freqTimer_le h3, Noise.stepTimer_freqTimer_le h4, ?_, hphase⟩
  rwa [Wave.ramOk, stepTimers, Wave.stepTimer_ram]

theorem lengthClock_rangesOk {s : State} (hs : s.rangesOk = true) : (lengthClock s).rangesOk = true := by
  unfold lengthClock
  simp only [Square.clockLength_eq, Wave.clockLength_eq, Noise.clockLength_eq]
  exact hs

theorem envelopeClock_rangesOk {s : State} (hs : s.rangesOk = true) : (envelopeClock s).rangesOk = true := by
  unfold envelopeClock
  simp only [Square.clockEnvelope_eq, Noise.clockEnvelope_eq]
  exact hs

/-- RESAMPLE leaves a phase of at least 0, whatever it started from (R805). -/
theorem resample_rangesOk {s : State} (hs : s.rangesOk = true) : (resample s).rangesOk = true := by
  obtain ⟨h1, h2, h3, h4, hram, -⟩ := (rangesOk_iff s).mp hs
  rw [resample_eq]
  exact (rangesOk_iff _).mpr ⟨h1, h2, h3, h4, hram, s.feedRounds_phase⟩

theorem ringPush_rangesOk {s : State} (hs : s.rangesOk = true) : (ringPush s).rangesOk = true := by
  unfold ringPush
  split
  · exact hs
  · split <;> exact hs

/-- The block's operations keep the ranges. -/
theorem rangesOk_moveClosed : MoveClosed (fun s => s.rangesOk = true) where
  write be data r _ hs := writeReg_rangesOk be data r hs
  halt s hs := by rw [cpuHalt, State.leaveRunning]; split <;> exact hs
  stop s hs := by rw [cpuStop, State.leaveRunning]; split <;> exact hs
  wait mask s hs := by rw [cpuIntrwait]; split <;> exact hs
  request _ _ hs := hs
  pop _ _ _ hs := hs
  emit _ _ hs := hs
  setTimer _ _ _ hs := hs
  setFlags _ _ hs := hs
  drain s f hs := by rw [fifoDrain_frame]; exact hs
  stepTimers _ hs := stepTimers_rangesOk hs
  lengthClock _ hs := lengthClock_rangesOk hs
  sweepClock s hs := by rw [sweepClock_eq]; exact hs
  envelopeClock _ hs := envelopeClock_rangesOk hs
  resample _ hs := resample_rangesOk hs
  push _ hs := ringPush_rangesOk hs
  setSched _ _ _ _ hs := hs
  setApu _ _ _ hs := hs
  setSeq _ _ hs := hs
  setArgs _ _ hs := hs
  setAnswers _ _ _ hs := hs
  setEvents _ _ hs := hs
  reset _ _ := rfl
  setSpeed _ _ _ hs := hs
  tearDown _ hs := hs

/-! ## The recorded faults, and what is left of the script -/

/-- `t` has the faults that `s` has recorded, and the same moves still to come. -/
def RecordKept (s t : State) : Prop := t.faults = s.faults ∧ t.env.script = s.env.script

theorem AgentFrame.recordKept {s t : State} (h : AgentFrame s t) : RecordKept s t := by
  obtain ⟨-, hfaults, -, -, -, -, henv, -⟩ := h
  exact ⟨hfaults, congrArg Env.script henv⟩

theorem TimerFrame.recordKept {s t : State} (h : TimerFrame s t) : RecordKept s t := by
  rw [h]
  exact ⟨rfl, rfl⟩

theorem SoundFrame.recordKept {s t : State} (h : SoundFrame s t) : RecordKept s t := by
  rw [h]
  exact ⟨rfl, rfl⟩

theorem RecordKept.trans {s t u : State} (h : RecordKept s t) (k : RecordKept t u) : RecordKept s u :=
  ⟨k.1.trans h.1, k.2.trans h.2⟩

theorem ringPush_recordKept (s : State) : RecordKept s (ringPush s) := by
  unfold ringPush
  split
  · exact ⟨rfl, rfl⟩
  · split <;> exact ⟨rfl, rfl⟩

/-- The block's operations record no fault, and take no move. -/
theorem RecordKept.moveClosed (s : State) : MoveClosed (RecordKept s) where
  write be data r t h := h.trans (writeReg_frame be data r t).recordKept
  halt t h := h.trans ((AgentFrame.closed t).halt t (.refl t)).recordKept
  stop t h := h.trans ((AgentFrame.closed t).stop t (.refl t)).recordKept
  wait mask t h := h.trans ((AgentFrame.closed t).wait mask t (.refl t)).recordKept
  request _ _ h := h
  pop _ _ _ h := h
  emit _ _ h := h
  setTimer _ _ _ h := h
  setFlags _ _ h := h
  drain t f h := h.trans ((TimerFrame.closed t).drain t f (.refl t)).recordKept
  stepTimers _ h := h
  lengthClock _ h := h
  sweepClock t h := h.trans (sweepClock_soundFrame t).recordKept
  envelopeClock _ h := h
  resample _ h := h
  push t h := h.trans (ringPush_recordKept t)
  setSched _ _ _ _ h := h
  setApu _ _ _ h := h
  setSeq _ _ h := h
  setArgs _ _ h := h
  setAnswers _ _ hscript h := ⟨h.1, hscript.trans h.2⟩
  setEvents _ _ h := h
  reset _ h := h
  setSpeed _ _ _ h := h
  tearDown _ h := h

/-! ## Transitions -/

/-- `s` without the first move of its script, which a transition takes. -/
def State.moveTaken (s : State) : State := { s with env := { s.env with script := s.env.script.tail } }

/-- What holds once the move is taken, and the block's operations keep, holds after the move. -/
theorem nextMove_induct {P : State → Prop} (h : MoveClosed P) {s t : State} (hs : P s.moveTaken)
    (hmove : nextMove s = .next t) : P t := by
  unfold nextMove at hmove
  split at hmove
  · rename_i hscript
    have hnone : s.moveTaken = s := by
      have htail : s.env.script.tail = s.env.script := by rw [hscript, List.tail_nil]
      rw [State.moveTaken, htail]
    exact emulate_induct h (hnone ▸ hs) hmove
  · rename_i m ms hscript
    rw [State.moveTaken, hscript] at hs
    exact performMove_induct h hs hmove

/-- A recorded fault is final (R900 c, R115). -/
theorem step_of_faults {s : State} (h : s.faults ≠ []) : step s = .fault (.faulted s.faults) := if_pos h

/-- Broken invariants are recorded, and nothing else changes (R902; log 5). -/
theorem step_of_broken {s : State} (hfaults : s.faults = []) (h : s.invariants = false) :
    step s = .next { s with faults := [.invariant] } := by
  simp [step, hfaults, h, State.raiseFault]

theorem safe_iff (s : State) : s.safe = true ↔ s.faults = [] ∧ s.invariants = true := by
  simp only [State.safe, Bool.and_eq_true, List.isEmpty_iff]

/-- A transition records the broken invariants, or is the next move of a safe state. -/
theorem step_next_cases {s t : State} (h : step s = .next t) :
    s.faults = [] ∧ s.invariants = false ∧ t = { s with faults := [.invariant] } ∨
      s.safe = true ∧ nextMove s = .next t := by
  by_cases hfaults : s.faults = []
  · cases hinv : s.invariants with
    | false =>
      rw [step_of_broken hfaults hinv] at h
      cases h
      exact .inl ⟨hfaults, rfl, rfl⟩
    | true =>
      have hsafe := (safe_iff s).mpr ⟨hfaults, hinv⟩
      exact .inr ⟨hsafe, (step_of_safe hsafe).symm.trans h⟩
  · rw [step_of_faults hfaults] at h
    cases h

/-- The next move records no fault and takes one move of the script. -/
theorem nextMove_recordKept {s t : State} (h : nextMove s = .next t) : RecordKept s.moveTaken t :=
  nextMove_induct (RecordKept.moveClosed _) ⟨rfl, rfl⟩ h

theorem nextMove_safe {s t : State} (hs : s.safe = true) (h : nextMove s = .next t) : t.safe = true := by
  obtain ⟨hfaults, hinv⟩ := (safe_iff s).mp hs
  exact (safe_iff t).mpr ⟨(nextMove_recordKept h).1.trans hfaults, nextMove_induct invariants_moveClosed hinv h⟩

/-! ## The obligations -/

/-- Settles O55: a transition records the broken invariants, or is a move, made of operations that keep them and the
ranges. -/
theorem everyTransitionKeepsTheInvariants : Obligations.EveryTransitionKeepsTheInvariants := by
  intro s t h
  obtain ⟨-, hbroken, rfl⟩ | ⟨hsafe, hmove⟩ := step_next_cases h
  · refine ⟨fun hs => ?_, id⟩
    obtain ⟨-, hinv⟩ := (safe_iff s).mp hs
    rw [hinv] at hbroken
    cases hbroken
  · exact ⟨fun _ => nextMove_safe hsafe hmove, fun hr => nextMove_induct rangesOk_moveClosed hr hmove⟩

/-- Settles O54: the three branches of a step, and `nextMove_recordKept`. -/
theorem faultsAreRecordedAndFinal : Obligations.FaultsAreRecordedAndFinal := by
  intro s
  refine ⟨step_of_broken, step_of_faults, fun t h hinv => ?_⟩
  obtain ⟨-, hbroken, -⟩ | ⟨-, hmove⟩ := step_next_cases h
  · rw [hinv] at hbroken
    cases hbroken
  · exact (nextMove_recordKept hmove).1

/-- Settles O60: an instruction of these ports is its operation inside a call by definition, or a register's read, which
the invariants give the same value; words and accesses by `issued_eq_performIssue`. -/
theorem issuedWordsActAsAnywhereElse : Obligations.IssuedWordsActAsAnywhereElse := by
  intro s hs
  refine ⟨fun i hp => ?_, fun x => (issued_eq_performIssue x hs).symm, fun xs =>
    (issuedAll_eq_performIssues xs hs).symm⟩
  have hagent : AgentPort i.port := by rcases hp with h | h | h | h <;> rw [h] <;> exact ⟨by decide, by decide⟩
  obtain ⟨r, rfl⟩ | hdef := exec_agentExec_or_readRow hagent
  · rw [exec_readRow r hs, agentExec_readRow]
  · exact hdef s

end Sys2Proof.Machine
end

section
/-! PROOFS. Under DropOldest a frame in progress comes to its end (R401, R438, R946): the other agents' words that still
come are finitely many, the waiting events drain, and the loops of RUN_FRAME advance `i` until the budget is used up. -/

namespace Sys2Proof.Machine

/-! ## A run to the end of a frame -/

/-- From `s` a frame stays in progress for some number of steps, and then ends with `i` at `b` and did_render
returned. -/
def Ends (b : Nat) (s : State) : Prop :=
  ∃ k t, Host.Core.run Sys2Proof.core k s = .next t ∧ t.sched.inFrame = false ∧ t.sched.i = b ∧
    (∃ didRender sent, t.out = .frameDone didRender :: sent) ∧
    ∀ j < k, ∃ u : State, Host.Core.run Sys2Proof.core j s = .next u ∧ u.sched.inFrame = true

theorem run_succ (M : Host.Core) {s t : M.State} (h : M.step s = .next t) (k : Nat) : M.run (k + 1) s = M.run k t := by
  rw [Host.Core.run, h]

theorem Ends.of_step {b : Nat} {s t : State} (hframe : s.sched.inFrame = true) (hstep : step s = .next t)
    (ht : Ends b t) : Ends b s := by
  obtain ⟨k, e, hrun, hout, hi, hdone, hbefore⟩ := ht
  refine ⟨k + 1, e, (run_succ Sys2Proof.core hstep k).trans hrun, hout, hi, hdone, fun j hj => ?_⟩
  cases j with
  | zero => exact ⟨s, rfl, hframe⟩
  | succ j =>
    obtain ⟨u, hu, hin⟩ := hbefore j (Nat.lt_of_succ_lt_succ hj)
    exact ⟨u, (run_succ Sys2Proof.core hstep j).trans hu, hin⟩

/-- A safe state in a frame of `b` ticks under DropOldest, with a consistent place. -/
structure Inside (b : Nat) (s : State) : Prop where
  safe : s.safe = true
  frameOk : s.frameOk
  inFrame : s.sched.inFrame = true
  dropOldest : s.params.rbPolicy = .dropOldest
  speed : 280896 * s.sched.speed.toNat = b

namespace Inside

variable {b : Nat} {s t : State}

theorem phase_ne_idle (h : Inside b s) : s.seq.phase ≠ .idle := by
  obtain ⟨hiff, -⟩ := h.frameOk
  exact hiff.mp h.inFrame

theorem budget_eq (h : Inside b s) : s.seq.budget = b :=
  (budget_of_frameOk h.frameOk h.phase_ne_idle).trans h.speed

theorem tornDown_eq (h : Inside b s) : s.tornDown = false := by
  obtain ⟨-, -, -, -, hup⟩ := h.frameOk
  exact hup h.inFrame

/-- In the body of a loop `i` has not reached the budget. -/
theorem i_lt (h : Inside b s) (hphase : s.seq.phase = .carryTick ∨ s.seq.phase = .passRun ∨ s.seq.phase = .tickRun) :
    s.sched.i < b := by
  obtain ⟨-, -, hbody, -⟩ := h.frameOk
  exact h.budget_eq ▸ hbody hphase

/-- A transition inside the frame keeps all of it: no command changes the multiplier there. -/
theorem next (h : Inside b s) (hstep : step s = .next t) (hframe : t.sched.inFrame = true) : Inside b t := by
  obtain ⟨hsafe, -⟩ := everyTransitionKeepsTheInvariants s t hstep
  obtain ⟨hparams, hspeed⟩ | ⟨-, hbetween, -⟩ := step_speed hstep
  · exact ⟨hsafe h.safe, (step_frameStep h.frameOk hstep).1, hframe, hparams ▸ h.dropOldest, hspeed ▸ h.speed⟩
  · rw [h.inFrame] at hbetween
    cases hbetween

/-- A transition ends the frame with its budget used up, or a frame of the same budget goes on. -/
theorem ends_of_next (h : Inside b s)
    (hnext : ∀ t, Inside b t → t.env.script = s.env.script.tail → step s = .next t → Ends b t) : Ends b s := by
  obtain ⟨hfaults, -⟩ := (safe_iff s).mp h.safe
  obtain ⟨t, hstep⟩ := step_next_of_no_fault hfaults
  refine .of_step h.inFrame hstep ?_
  cases hframe : t.sched.inFrame with
  | true => exact hnext t (h.next hstep hframe) (nextMove_recordKept ((step_of_safe h.safe).symm.trans hstep)).2 hstep
  | false =>
    obtain ⟨-, hi, hend⟩ := (step_frameStep h.frameOk hstep).2 h.inFrame
    obtain ⟨hfull, hi, hout⟩ := hend hframe
    exact ⟨0, t, rfl, hframe, hi.trans (hfull.trans h.speed), ⟨_, _, hout⟩, fun j hj => absurd hj (Nat.not_lt_zero j)⟩

end Inside

/-- And no other agent's move is left, so that the emulation agent moves. -/
structure Quiet (b : Nat) (s : State) : Prop extends Inside b s where
  script : s.env.script = []

/-! ## The waiting events drain -/

/-- In front of the events `es` wait only RING_PUSHes, under DropOldest. -/
def PushesBefore (es : List Event) (s : State) : Prop :=
  s.params.rbPolicy = .dropOldest ∧ ∃ ps, (∀ e ∈ ps, e.word = encode .evtRingPush) ∧ s.events = ps ++ es

theorem PushesBefore.of_kept {es : List Event} {s t : State} (h : PushesBefore es s) (hparams : t.params = s.params)
    (hevents : t.events = s.events) : PushesBefore es t := by
  unfold PushesBefore
  rwa [hparams, hevents]

theorem PushesBefore.of_agentFrame {es : List Event} {s t : State} (h : PushesBefore es s) (k : AgentFrame s t) :
    PushesBefore es t := by
  obtain ⟨-, -, hparams, -, hevents, -⟩ := k
  exact h.of_kept hparams hevents

/-- RING_PUSH leaves the waiting events under DropOldest (R821). -/
theorem ringPush_events {s : State} (h : s.params.rbPolicy = .dropOldest) :
    (ringPush s).params = s.params ∧ (ringPush s).events = s.events := by
  rcases Nat.lt_or_ge s.ring.rb.length s.params.rbCap.val with hroom | hfull
  · rw [ringPush_of_room hroom]
    exact ⟨rfl, rfl⟩
  · rw [ringPush_of_full_dropOldest hfull h]
    exact ⟨rfl, rfl⟩

/-- RESAMPLE hands on RING_PUSHes, and no other operation adds an event (R801, R303). -/
theorem pushesBefore_execClosed (es : List Event) : ExecClosed (PushesBefore es) where
  write be data r t h := h.of_agentFrame (writeReg_frame be data r t)
  halt t h := h.of_agentFrame ((AgentFrame.closed t).halt t (.refl t))
  stop t h := h.of_agentFrame ((AgentFrame.closed t).stop t (.refl t))
  wait mask t h := h.of_agentFrame ((AgentFrame.closed t).wait mask t (.refl t))
  request _ _ h := h
  pop _ _ _ h := h
  emit _ _ h := h
  setTimer _ _ _ h := h
  setFlags _ _ h := h
  drain t f h := by rw [fifoDrain_frame]; exact h
  stepTimers _ h := h
  lengthClock _ h := h
  sweepClock t h := by rw [sweepClock_soundFrame t]; exact h
  envelopeClock _ h := h
  resample t h := by
    obtain ⟨hdrop, ps, hps, hevents⟩ := h
    rw [resample_eq, hevents, ← List.append_assoc]
    refine ⟨hdrop, _, fun e he => ?_, rfl⟩
    obtain hnew | hold := List.mem_append.mp he
    · obtain ⟨j, -, rfl⟩ := List.mem_map.mp hnew
      rfl
    · exact hps e hold
  push t h := by
    obtain ⟨hparams, hevents⟩ := ringPush_events h.1
    exact h.of_kept hparams hevents
  setSched _ _ _ _ h := h
  setApu _ _ _ h := h
  setSeq _ _ h := h
  setArgs _ _ h := h
  setAnswers _ _ _ h := h

namespace Quiet

variable {b : Nat} {s t : State}

theorem ends_of_next (h : Quiet b s) (hnext : ∀ t, Quiet b t → step s = .next t → Ends b t) : Ends b s :=
  h.toInside.ends_of_next fun t hin hscript hstep => hnext t ⟨hin, by rw [hscript, h.script]; rfl⟩ hstep

/-- The oldest waiting event is what a transition performs. -/
theorem step_event (h : Quiet b s) {e : Event} {es : List Event} (hevents : s.events = e :: es) :
    step s = present .internal e.word ({ s with events := es }.loadArg e.arg) := by
  rw [step_of_safe h.safe]
  simp [nextMove, h.script, emulate, h.tornDown_eq, hevents]

theorem step_sequence (h : Quiet b s) (hevents : s.events = []) : step s = .next (sequence s) :=
  step_eq_sequence h.safe h.script hevents h.tornDown_eq

/-- An event does not move RUN_FRAME's place (R401). -/
theorem placeKept_event (h : Quiet b s) {e : Event} {es : List Event} (hevents : s.events = e :: es)
    (hstep : step s = .next t) : PlaceKept s t := by
  rw [h.step_event hevents] at hstep
  have hload : PlaceKept s ({ s with events := es }.loadArg e.arg) := by simp [PlaceKept]
  exact hload.trans (present_placeKept (by decide) hstep)

theorem pushesBefore_event (h : Quiet b s) {e : Event} {es : List Event} (hevents : s.events = e :: es)
    (hstep : step s = .next t) : PushesBefore es t := by
  rw [h.step_event hevents] at hstep
  have hload : PushesBefore es ({ s with events := es }.loadArg e.arg) :=
    ⟨by simpa using h.dropOldest, [], by simp, by simp⟩
  exact present_induct (pushesBefore_execClosed es) (by decide) hload hstep

/-- A RING_PUSH adds no event under DropOldest. -/
theorem events_push (h : Quiet b s) {e : Event} {es : List Event} (hevents : s.events = e :: es)
    (hword : e.word = encode .evtRingPush) (hstep : step s = .next t) : t.events = es := by
  rw [h.step_event hevents, hword,
    present_instr (p := .internal) (decodeOfEncodeIsTheInstruction .evtRingPush rfl)] at hstep
  obtain rfl : ringPush _ = t := Host.Outcome.next.inj hstep
  rw [(ringPush_events (by simpa using h.dropOldest)).2, State.loadArg_events]

/-- RING_PUSHes that wait are performed one after the other. -/
theorem ends_of_pushes (ps : List Event) (hps : ∀ e ∈ ps, e.word = encode .evtRingPush) {es : List Event}
    (h : Quiet b s) (hevents : s.events = ps ++ es)
    (hdone : ∀ t, Quiet b t → PlaceKept s t → t.events = es → Ends b t) : Ends b s := by
  induction ps generalizing s with
  | nil => exact hdone s h (.refl s) hevents
  | cons p ps ih =>
    refine h.ends_of_next fun t ht hstep => ?_
    have hplace := h.placeKept_event hevents hstep
    exact ih (fun e he => hps e (List.mem_cons_of_mem p he)) ht
      (h.events_push hevents (hps p List.mem_cons_self) hstep)
      fun u hu hkept => hdone u hu (hplace.trans hkept)

/-- Every event that waits is performed, the RING_PUSHes that it hands on after it, and the place stays. -/
theorem ends_of_drained (h : Quiet b s) (hdone : ∀ t, Quiet b t → PlaceKept s t → t.events = [] → Ends b t) :
    Ends b s := by
  induction hevents : s.events generalizing s with
  | nil => exact hdone s h (.refl s) hevents
  | cons e es ih =>
    refine h.ends_of_next fun t ht hstep => ?_
    have hplace := h.placeKept_event hevents hstep
    obtain ⟨-, ps, hps, htevents⟩ := h.pushesBefore_event hevents hstep
    exact ht.ends_of_pushes ps hps htevents fun u hu hkept huevents =>
      ih hu (fun v hv hkept' => hdone v hv ((hplace.trans hkept).trans hkept')) huevents

/-! ## The loops advance (R401) -/

theorem ends_of_sequence (h : Quiet b s) (hevents : s.events = [])
    (hnext : Quiet b (sequence s) → Ends b (sequence s)) : Ends b s := by
  refine h.ends_of_next fun t ht hstep => ?_
  obtain rfl := Host.Outcome.next.inj ((h.step_sequence hevents).symm.trans hstep)
  exact hnext ht

end Quiet

/-- Frames that have got further than tick `i`, and whose events have drained, end. -/
def LaterEnd (b i : Nat) : Prop := ∀ s, Quiet b s → s.events = [] → i < s.sched.i → Ends b s

namespace LaterEnd

variable {b i : Nat} {s : State} (hlater : LaterEnd b i)
include hlater

/-- The end of a loop's body that performs a tick. -/
theorem ends_of_body (h : Quiet b s) (hi : s.sched.i = i)
    (hphase : s.seq.phase = .carryTick ∨ s.seq.phase = .tickRun) : Ends b s := by
  refine h.ends_of_drained fun t ht hplace hevents => ?_
  obtain ⟨⟨-, -, hkept, -⟩, ⟨hphase', -⟩, -⟩ := hplace
  have hi : t.sched.i = i := hkept.trans hi
  rw [← hphase'] at hphase
  refine ht.ends_of_sequence hevents fun hq => ?_
  rcases hphase with hphase | hphase <;>
    refine hlater _ hq ?_ ?_ <;> simp [sequence, hphase, State.goto, State.advanceTick, hevents, hi]

/-- A pass whose ticks are not used up performs one. -/
theorem ends_of_tick (h : Quiet b s) (hevents : s.events = []) (hi : s.sched.i = i) (hphase : s.seq.phase = .ticks)
    (hk : s.seq.k < s.seq.n) (hlt : i < b) : Ends b s := by
  refine h.ends_of_sequence hevents fun hq => ?_
  have hloop : s.seq.k < s.seq.n ∧ s.sched.i < s.seq.budget := ⟨hk, by rw [h.budget_eq, hi]; exact hlt⟩
  cases hfan : s.seq.fan with
  | true =>
    have hseq : sequence s = s.generate .evtTick .tickRun := by simp [sequence, hphase, hloop, hfan]
    rw [hseq] at hq ⊢
    exact hlater.ends_of_body hq hi (.inr rfl)
  | false =>
    have hseq : sequence s = { s with seq := { s.seq with k := s.seq.k + 1 } }.advanceTick := by
      simp [sequence, hphase, hloop, hfan]
    rw [hseq] at hq ⊢
    exact hlater _ hq hevents (hi ▸ Nat.lt_succ_self _)

/-- After a pass, which charges at least one tick. -/
theorem ends_of_passRun (h : Quiet b s) (hevents : s.events = []) (hi : s.sched.i = i)
    (hphase : s.seq.phase = .passRun) (hn : 1 ≤ s.seq.n) : Ends b s := by
  have hlt : i < b := hi ▸ h.i_lt (.inr (.inl hphase))
  refine h.ends_of_sequence hevents fun hq => ?_
  have hseq : sequence s = { s with seq := { s.seq with k := 0 } }.goto .ticks := by simp [sequence, hphase]
  rw [hseq] at hq ⊢
  exact hlater.ends_of_tick hq hevents hi rfl hn hlt

/-- The pass that the sequencer has generated. -/
theorem ends_of_generatedPass (h : Quiet b s) (hevents : s.events = [{ word := encode .evtPass, arg := .none }])
    (hi : s.sched.i = i) (hphase : s.seq.phase = .passRun) : Ends b s := by
  refine h.ends_of_next fun t ht hstep => ?_
  obtain ⟨⟨-, -, hkept, -⟩, ⟨hphase', -⟩, -⟩ := h.placeKept_event hevents hstep
  rw [h.step_event hevents, present_instr (p := .internal) (decodeOfEncodeIsTheInstruction .evtPass rfl)] at hstep
  obtain rfl : pass { s with events := [] } = t := Host.Outcome.next.inj hstep
  obtain ⟨-, -, -, hnone, -⟩ := pass_kept { s with events := [] }
  exact hlater.ends_of_passRun ht hnone (hkept.trans hi) (hphase'.trans hphase) (pass_result _).1

/-- The test of the pass loop: another pass, or the end of the frame. -/
theorem ends_of_pass (h : Quiet b s) (hevents : s.events = []) (hi : s.sched.i = i) (hphase : s.seq.phase = .pass) :
    Ends b s := by
  refine h.ends_of_sequence hevents fun hq => ?_
  by_cases hlt : s.sched.i < s.seq.budget
  · have hseq : sequence s = s.generate .evtPass .passRun := by simp [sequence, hphase, hlt]
    rw [hseq] at hq ⊢
    exact hlater.ends_of_generatedPass hq rfl hi rfl
  · have hseq : sequence s = s.endFrame := by simp [sequence, hphase, hlt]
    rw [hseq] at hq
    cases hq.inFrame

/-- The test of the tick loop: another tick, or the next pass. -/
theorem ends_of_ticks (h : Quiet b s) (hevents : s.events = []) (hi : s.sched.i = i) (hphase : s.seq.phase = .ticks) :
    Ends b s := by
  by_cases hloop : s.seq.k < s.seq.n ∧ s.sched.i < s.seq.budget
  · exact hlater.ends_of_tick h hevents hi hphase hloop.1 (by rw [← hi, ← h.budget_eq]; exact hloop.2)
  · refine h.ends_of_sequence hevents fun hq => ?_
    have hseq : sequence s =
        { s with sched := { s.sched with carry := if s.seq.fan then s.seq.n - s.seq.k else 0 } }.goto .pass := by
      simp [sequence, hphase, hloop]
    rw [hseq] at hq ⊢
    exact hlater.ends_of_pass hq hevents hi rfl

/-- The test of the carried loop: another carried tick, or the first pass. -/
theorem ends_of_carry (h : Quiet b s) (hevents : s.events = []) (hi : s.sched.i = i) (hphase : s.seq.phase = .carry) :
    Ends b s := by
  refine h.ends_of_sequence hevents fun hq => ?_
  by_cases hloop : 0 < s.sched.carry ∧ s.sched.i < s.seq.budget
  · have hseq : sequence s = s.generate .evtTick .carryTick := by simp [sequence, hphase, hloop]
    rw [hseq] at hq ⊢
    exact hlater.ends_of_body hq hi (.inl rfl)
  · have hseq : sequence s = s.goto .pass := by simp [sequence, hphase, hloop]
    rw [hseq] at hq ⊢
    exact hlater.ends_of_pass hq hevents hi rfl

/-- From every place in the frame. -/
theorem ends (h : Quiet b s) (hevents : s.events = []) (hi : s.sched.i = i) : Ends b s := by
  cases hphase : s.seq.phase with
  | idle => exact absurd hphase h.phase_ne_idle
  | carry => exact hlater.ends_of_carry h hevents hi hphase
  | carryTick => exact hlater.ends_of_body h hi (.inl hphase)
  | pass => exact hlater.ends_of_pass h hevents hi hphase
  | passRun =>
    refine h.ends_of_sequence hevents fun hq => ?_
    have hseq : sequence s = { s with seq := { s.seq with k := 0 } }.goto .ticks := by simp [sequence, hphase]
    rw [hseq] at hq ⊢
    exact hlater.ends_of_ticks hq hevents hi rfl
  | ticks => exact hlater.ends_of_ticks h hevents hi hphase
  | tickRun => exact hlater.ends_of_body h hi (.inr hphase)

end LaterEnd

/-! ## The frame ends -/

theorem Inside.i_le {b : Nat} {s : State} (h : Inside b s) : s.sched.i ≤ b := by
  obtain ⟨-, hheld, -⟩ := h.frameOk
  exact h.budget_eq ▸ (hheld h.phase_ne_idle).2

/-- By induction on the ticks that are left of the budget. -/
theorem laterEnd {b left i : Nat} (hleft : b ≤ i + left) : LaterEnd b i := by
  induction left generalizing i with
  | zero =>
    intro s h _ hi
    have hle := h.i_le
    omega
  | succ left ih =>
    intro s h hevents hi
    exact LaterEnd.ends (ih (by omega)) h hevents rfl

theorem Quiet.ends {b : Nat} {s : State} (h : Quiet b s) : Ends b s :=
  h.ends_of_drained fun _ ht _ hevents => (laterEnd (Nat.le_add_left b _)).ends ht hevents rfl

/-- By induction on the moves of the other agents that still come. -/
theorem Inside.ends {b : Nat} {s : State} (h : Inside b s) : Ends b s := by
  induction hscript : s.env.script generalizing s with
  | nil => exact Quiet.ends ⟨h, hscript⟩
  | cons m ms ih => exact h.ends_of_next fun t ht htail _ => ih ht (by rw [htail, hscript, List.tail_cons])

/-- Settles O48: `Inside.ends`, with the frame's budget. -/
theorem frameTerminatesUnderDropOldest : Obligations.FrameTerminatesUnderDropOldest :=
  fun _ hsafe hok hframe hdrop => Inside.ends ⟨hsafe, hok, hframe, hdrop, rfl⟩

end Sys2Proof.Machine
end

section
/-! PROOFS. The reset values (R1000-R1002): the state after construction, and what RESET restores and keeps. -/

namespace Sys2Proof.Machine

/-! ## The state after construction (R1000, R1002) -/

@[simp] theorem State.reset_timer (n : Fin 4) : State.reset.timer n = Timer.reset := Vector.getElem_replicate _

@[simp] theorem Wave.reset_byte (bank : Bool) (k : Nat) : Wave.reset.byte bank k = 0 := rfl

@[simp] theorem Wave.reset_readRam (k : Fin 8) : Wave.reset.readRam k = 0 := by
  rw [Wave.readRam, Wave.reset_byte, Wave.reset_byte]
  rfl

/-- No fault, and every bound of R902 met. -/
theorem State.reset_safe : State.reset.safe = true := by decide

theorem State.reset_rangesOk : State.reset.rangesOk = true := by decide

theorem State.reset_frameOk : State.reset.frameOk := frameOk_of_idle rfl rfl

/-- The registers of wave RAM, the FIFOs and the timers come with an index; each other one is a closed value (R1000). -/
theorem State.reset_readValue (r : Reg) : readValue r State.reset = if r = .soundbias then 0x0200 else 0 := by
  cases r with
  | waveRam k =>
    have hram : storedValue (.waveRam k) State.reset = 0 := Wave.reset_readRam k
    simp [readValue, hram, dynamicBits]
  | fifoA h | fifoB h => simp [readValue, storedValue, dynamicBits]
  | tmcntL n => simp [readValue, readMask, dynamicBits, Timer.reset]
  | tmcntH n =>
    have hcontrol : storedValue (.tmcntH n) State.reset = 0 := congrArg Timer.packControl (State.reset_timer n)
    simp [readValue, hcontrol, dynamicBits]
  | _ => decide

/-- Settles O56: the lemmas above for the invariants, the registers, the timers and wave RAM; each other field is the
reset value that it is defined by. -/
theorem resetStateMeetsTheInvariants : Obligations.ResetStateMeetsTheInvariants :=
  ⟨State.reset_safe, State.reset_rangesOk, State.reset_frameOk, State.reset_readValue, fun _ _ => Wave.reset_byte _ _,
    rfl, rfl, State.reset_timer, rfl, rfl, rfl, rfl, rfl, rfl, rfl, rfl, rfl, rfl, rfl⟩

/-! ## RESET (R1001) -/

/-- Settles O45: RESET is `betweenFrames` of `resetFields`, whose fields are those of `State.reset`. -/
theorem resetRestoresAllButRingAndFaults : Obligations.ResetRestoresAllButRingAndFaults := by
  intro s
  change (_ → Host.Outcome.next (resetBlock s) = _) ∧ (_ → Host.Outcome.next (resetBlock s) = _)
  obtain ⟨hframe, hres⟩ | ⟨hframe, hres⟩ := betweenFrames_cases .reset s resetFields <;> rw [resetBlock, hres, hframe]
  · exact ⟨fun _ => rfl, nofun⟩
  · exact ⟨nofun, fun _ => rfl⟩

end Sys2Proof.Machine
end
